-- ==== Sys2Proof/Word.lean ====
section
/-! DEFINITION. The one word type of the CW960 model: the byte of its ports.
Everything else the manual counts, times or numbers is a natural number, an enumeration or a list. -/

namespace Sys2Proof

/-- One byte of the host link, of a desk reply or of a sheet row (R83, R126, R184). -/
abbrev Byte := BitVec 8

end Sys2Proof
end

