-- ==== Sys2Proof/Config.lean ====
section
/-! DEFINITION. What one implementation of the CW960 fixes, and the values the manual leaves open.
The capacities are the manual's own figures. The two opaque constants have no body, so a claim about the
model holds whatever they are. -/

namespace Sys2Proof.Config

/-- Seats of the hall (R1). -/
def seatCount : Nat := 960
/-- Grid rows of the hall (R1). -/
def rowCount : Nat := 40
/-- Grid columns of the hall (R1). -/
def columnCount : Nat := 64
/-- Candidate records of the roster (R26). -/
def rosterCount : Nat := 960
/-- Session slots (R49). -/
def sessionCount : Nat := 8
/-- Desk lines (R77). -/
def lineCount : Nat := 8
/-- Desk addresses of a line (R78). -/
def deskCount : Nat := 120
/-- Reader stations (R114). -/
def stationCount : Nat := 4
/-- Store slots (R127). -/
def storeCount : Nat := 48
/-- Entries of the Cover Queue (R125). -/
def coverCount : Nat := 32
/-- Bundle headers (R149). -/
def bundleCount : Nat := 256
/-- Notices of the Notice Queue (R197). -/
def noticeCount : Nat := 64
/-- Places of the receive buffer (R188). -/
def bufferCount : Nat := 4
/-- The last hall second of a day (R47). -/
def lastSecond : Nat := 86399
/-- Where the saturating 16-bit counts of the link stop (R187, R193, R197). -/
def countStop : Nat := 65535

/-- The part's revision, "a number from 1 to 255" (R195): the manual gives no value.
Free value, log entry 3; `Machine.revision` brings it into its range. -/
opaque revisionSeed : BitVec 8

/-- How many milliseconds a ready line has been low, as GET_STATIONS reports it (R119).
The model holds no millisecond clock: free value, log entry 4, applied to `State.fresh`;
`Machine.readyLowReading` brings it into its range. -/
opaque readyLowTime : Nat → BitVec 16

end Sys2Proof.Config
end

