-- ==== Sys2Proof/Syntax.lean ====
section
/-! DEFINITION. The commands of the CW960: one constructor of `Instr` for each row of the opcode table, in the
table's order. A host request carries its tag and the fields of its payload (R184, R186), each field as the number
that stands in it. A field that may hold a word instead of a value (CONTINUE, AUTO, KEEP, DEFAULT, NONE, ALL) is an
`Option Nat`, and `none` is the word. A choice field holds the choice's number in the order the manual lists the
choices, from 0. An event carries what the outside shows the part at it. -/

namespace Sys2Proof

/-- One entry of DEFINE_SEATS (R3): kind 0 is DEFINE and 1 is REMOVE; the three flags are 0 or 1. -/
structure SeatEntry where
  kind : Nat
  seat : Nat
  row : Nat
  column : Nat
  line : Nat
  address : Nat
  accessible : Nat
  reserved : Nat
  outOfService : Nat
  deriving DecidableEq, Repr

/-- One entry of ADD_CANDIDATES (R27). -/
structure CandidateEntry where
  number : Nat
  slot : Nat
  allowance : Nat
  restAllowance : Nat
  needsAccess : Nat
  deriving DecidableEq, Repr

/-- One entry of KEY_PAGE (R161): kind 0 SINGLE, 1 MULTI, 2 VOID; the correct set has option A in bit 0. -/
structure QuestionEntry where
  kind : Nat
  correct : Byte
  weight : Nat
  penalty : Nat
  deriving DecidableEq, Repr

/-- The fields of DEFINE_SESSION (R50), paper code to bundle size; `bundleSize = none` is DEFAULT. -/
structure SessionEntry where
  paper : List Char
  form : Nat
  start : Nat
  reading : Nat
  writing : Nat
  late : Nat
  bar : Nat
  lock : Nat
  warn1 : Nat
  warn2 : Nat
  grain : Nat
  sheetRequired : Nat
  bundleSize : Option Nat
  deriving DecidableEq, Repr

/-- The commands of the part: the rows of spec/opcode_table.json in its order. -/
inductive Instr where
  -- Link Interface
  | identify (tag : Nat)
  | queryFault (tag : Nat)
  | setOption (tag option value : Nat)
  | getOption (tag option : Nat)
  | restart (tag : Nat)
  -- Seat Map
  | defineSeats (tag count : Nat) (entries : List SeatEntry)
  | getSeats (tag first count : Nat)
  | getSeatMap (tag : Nat)
  | setSeparation (tag mode : Nat)
  | allocate (tag slot count : Nat) (origin : Option Nat) (order : Nat)
  | allocateStep
  | assignSeat (tag candidate seat : Nat)
  | unassign (tag candidate : Nat)
  | moveCandidate (tag candidate : Nat) (target : Option Nat) (retire : Nat)
  -- Roster
  | addCandidates (tag count : Nat) (entries : List CandidateEntry)
  | setCandidate (tag candidate : Nat) (allowance restAllowance needsAccess slot : Option Nat)
  | getCandidate (tag candidate : Nat)
  | listCandidates (tag : Nat) (slot : Option Nat) (first count : Nat)
  | withdraw (tag candidate : Nat)
  | leaveCandidate (tag candidate : Nat)
  | markAbsent (tag candidate : Nat)
  -- Session Timer
  | getClock (tag : Nat)
  | setClock (tag hours minutes seconds : Nat)
  | defineSession (tag slot : Nat) (entry : SessionEntry)
  | getSession (tag : Nat) (slot : Option Nat)
  | openSeating (tag slot : Nat)
  | startSession (tag slot : Nat)
  | abortSession (tag slot : Nat)
  | pauseSession (tag slot : Nat)
  | resumeSession (tag slot : Nat)
  | holdHall (tag : Nat)
  | releaseHall (tag : Nat)
  | extendSession (tag slot seconds : Nat)
  | grantTime (tag candidate seconds : Nat)
  | clearSession (tag slot : Nat)
  -- Desk Line Controller
  | configureLine (tag line desks spare autoKeep : Nat)
  | getLine (tag line : Nat)
  | getDesks (tag line first count : Nat)
  | lineTest (tag line mode cycles : Nat)
  -- Board Driver
  | configureBoards (tag rows : Nat) (dwell : Option Nat)
  | getBoards (tag : Nat)
  | setFocus (tag : Nat) (slot : Option Nat)
  | boardMessage (tag : Nat) (text : List Char) (duration : Nat)
  | boardBlank (tag slot choice : Nat)
  -- Reader Port and Sheet Store
  | configureStation (tag station kind : Nat) (standby : Option Nat)
  | stationOff (tag station : Nat)
  | wakeStation (tag station : Nat)
  | getStations (tag : Nat)
  | readSheet (tag slot first count : Nat)
  | readSheetDone
  | listSlots (tag first count : Nat)
  | discardSheet (tag slot : Nat)
  | assignSheet (tag slot candidate : Nat)
  -- Collection Unit
  | recordBooklet (tag candidate ordinal form : Nat)
  | setDeclared (tag candidate count : Nat)
  | openCollection (tag slot : Nat)
  | collectSweep (tag slot first count : Nat)
  | sweepStep
  | acceptException (tag candidate : Nat)
  | closeBundle (tag slot : Nat)
  | getBundle (tag slot number : Nat)
  | getCollection (tag slot first : Nat)
  -- Marking Engine
  | beginKey (tag slot questions policy floor : Nat) (markThreshold faintThreshold : Option Nat)
  | keyPage (tag slot first count : Nat) (entries : List QuestionEntry)
  | commitKey (tag slot : Nat)
  | getKey (tag slot first count : Nat)
  | remark (tag slot : Nat)
  | remarkStep
  | getResult (tag candidate : Nat)
  | getResponses (tag candidate first count : Nat)
  -- events of the link
  /-- Bytes that reach the receiver in their order, and the two that follow them, which are the check bytes when they complete
  a frame; none comes more than 50 ms after the byte before it (R187). -/
  | frameReceived (bytes : List Byte) (check : BitVec 16)
  /-- More than 50 ms pass; the byte that arrives then is the first of the next command's bytes (R187). -/
  | frameGapTimeout
  | badRequest
  /-- The idle transmitter reads RTS (asserted or not) and may start a frame (R192). -/
  | transmitStart (rts : Bool)
  | restartBegin
  -- start-up and power
  | coldPin
  /-- Power is applied: whether the retained tables are valid (R198), and how the baud strap reads
  (`true` is 460,800 baud). -/
  | powerReturn (valid : Bool) (strap : Bool)
  | powerFail
  -- events of the clock
  | clockTick
  | sessionStart (slot : Nat)
  | writingStart (slot : Nat)
  | cutoffEvent (slot : Nat)
  | personalEnd (candidate : Nat)
  | sessionWarning (slot : Nat)
  | dayEnd
  | restOver (candidate : Nat)
  /-- The level of the hall-hold input changes (R62). -/
  | hallHoldInput (asserted : Bool)
  | inputHold
  -- events of the desk lines
  | sync (line : Nat)
  | marker (line : Nat)
  | poll (line : Nat)
  | spareSlot (line : Nat)
  /-- The bytes a desk sends within the slot that is open on the line (R83). -/
  | deskReply (line : Nat) (bytes : List Byte)
  | pollNoReply (line : Nat)
  | lineCycleEnd (line : Nat)
  | transmitFault (line : Nat)
  /-- A LOCAL test slot; whether the receiver takes the loop frame in intact (R97). -/
  | loopFrame (line : Nat) (intact : Bool)
  /-- An ECHO test poll slot; whether the pattern comes back intact and complete (R98). -/
  | echoRequest (line : Nat) (intact : Bool)
  | testCycleEnd (line : Nat)
  -- events of the boards
  | boardFrame
  | pageTurn
  | messageExpiry
  -- events of the reader port
  | stationRequest (station : Nat) (raised : Bool)
  | portGrant
  | sheetHeader (station : Nat) (bytes : List Byte)
  | sheetRow (station : Nat) (bytes : List Byte)
  | coverRecord (station : Nat) (bytes : List Byte)
  | readyChange (station : Nat) (high : Bool)
  | stall (station : Nat)
  | warmDone (station : Nat)
  | idleTimeout (station : Nat)
  | feedWake (station : Nat)
  | stationFault (station : Nat)
  -- events of marking and collection
  | markingTake
  | identification
  | scoring
  | coverTaken
  /-- The second length byte of a frame (R187). -/
  | frameLengthDiscard (byte : Byte)
  deriving DecidableEq, Repr

end Sys2Proof
end

