-- ==== Sys2Proof/WellFormed.lean ====
section
/-! DEFINITION. Which commands can come about at the part's ports: every field of a host request fits the bytes the
link gives it (R186), a field that may hold a word does not hold that word's all-ones value as a value, a list is as
long as its count says where the count is within the request's limit (R189), and an event carries what its port can
carry. Whether a value lies in its range is the owner's judgement (R189), not this one. -/

namespace Sys2Proof

/-- The value fits a field of one byte. -/
def fits1 (n : Nat) : Bool := n < 256
/-- The value fits a field of two bytes. -/
def fits2 (n : Nat) : Bool := n < 65536
/-- The value fits a field of four bytes. -/
def fits4 (n : Nat) : Bool := n < 4294967296
/-- A value or the all-ones word of a one-byte field (R186). -/
def wordFits1 : Option Nat → Bool
  | none => true
  | some n => n < 255
/-- A value or the all-ones word of a two-byte field (R186). -/
def wordFits2 : Option Nat → Bool
  | none => true
  | some n => n < 65535

/-- Characters the link carries: one byte each (R186). -/
def charsFit (text : List Char) : Bool := text.all fun c => c.toNat < 256

/-- The one-byte count convention: 0 stands for 256 (chapter "About this manual", "Counts in requests"). -/
def oneByteCount (n : Nat) : Nat := if n = 0 then 256 else n

/-- A list is as long as its count says, where the count is within the request's limit (R189). -/
def countFits (limit count length : Nat) : Bool :=
  fits1 count && (if oneByteCount count ≤ limit then length == oneByteCount count else length == 0)

def SeatEntry.fits (e : SeatEntry) : Bool :=
  fits1 e.kind && fits2 e.seat && fits2 e.row && fits2 e.column && fits1 e.line && fits2 e.address &&
  fits1 e.accessible && fits1 e.reserved && fits1 e.outOfService

def CandidateEntry.fits (e : CandidateEntry) : Bool :=
  fits4 e.number && fits1 e.slot && fits1 e.allowance && fits2 e.restAllowance && fits1 e.needsAccess

def QuestionEntry.fits (e : QuestionEntry) : Bool :=
  fits1 e.kind && fits1 e.weight && fits1 e.penalty

def SessionEntry.fits (e : SessionEntry) : Bool :=
  charsFit e.paper && e.paper.length == 6 && fits2 e.form && fits4 e.start && fits2 e.reading &&
  fits2 e.writing && fits2 e.late && fits2 e.bar && fits2 e.lock && fits2 e.warn1 && fits2 e.warn2 &&
  fits2 e.grain && fits1 e.sheetRequired && wordFits1 e.bundleSize

/-- The command can come about at the part's ports. -/
def Instr.wellFormed : Instr → Bool
  | .identify tag => fits2 tag
  | .queryFault tag => fits2 tag
  | .setOption tag option value => fits2 tag && fits1 option && fits4 value
  | .getOption tag option => fits2 tag && fits1 option
  | .restart tag => fits2 tag
  | .defineSeats tag count entries => fits2 tag && countFits 64 count entries.length && entries.all SeatEntry.fits
  | .getSeats tag first count => fits2 tag && fits2 first && fits1 count
  | .getSeatMap tag => fits2 tag
  | .setSeparation tag mode => fits2 tag && fits1 mode
  | .allocate tag slot count origin order =>
      fits2 tag && fits1 slot && fits1 count && wordFits2 origin && fits1 order
  | .allocateStep => true
  | .assignSeat tag candidate seat => fits2 tag && fits4 candidate && fits2 seat
  | .unassign tag candidate => fits2 tag && fits4 candidate
  | .moveCandidate tag candidate target retire =>
      fits2 tag && fits4 candidate && wordFits2 target && fits1 retire
  | .addCandidates tag count entries =>
      fits2 tag && countFits 16 count entries.length && entries.all CandidateEntry.fits
  | .setCandidate tag candidate a b access slot =>
      fits2 tag && fits4 candidate && wordFits1 a && wordFits2 b && wordFits1 access && wordFits1 slot
  | .getCandidate tag candidate => fits2 tag && fits4 candidate
  | .listCandidates tag slot first count => fits2 tag && wordFits1 slot && fits2 first && fits1 count
  | .withdraw tag candidate => fits2 tag && fits4 candidate
  | .leaveCandidate tag candidate => fits2 tag && fits4 candidate
  | .markAbsent tag candidate => fits2 tag && fits4 candidate
  | .getClock tag => fits2 tag
  | .setClock tag h m s => fits2 tag && fits1 h && fits1 m && fits1 s
  | .defineSession tag slot entry => fits2 tag && fits1 slot && entry.fits
  | .getSession tag slot => fits2 tag && wordFits1 slot
  | .openSeating tag slot => fits2 tag && fits1 slot
  | .startSession tag slot => fits2 tag && fits1 slot
  | .abortSession tag slot => fits2 tag && fits1 slot
  | .pauseSession tag slot => fits2 tag && fits1 slot
  | .resumeSession tag slot => fits2 tag && fits1 slot
  | .holdHall tag => fits2 tag
  | .releaseHall tag => fits2 tag
  | .extendSession tag slot seconds => fits2 tag && fits1 slot && fits2 seconds
  | .grantTime tag candidate seconds => fits2 tag && fits4 candidate && fits2 seconds
  | .clearSession tag slot => fits2 tag && fits1 slot
  | .configureLine tag line desks spare autoKeep =>
      fits2 tag && fits1 line && fits1 desks && fits1 spare && fits1 autoKeep
  | .getLine tag line => fits2 tag && fits1 line
  | .getDesks tag line first count => fits2 tag && fits1 line && fits2 first && fits1 count
  | .lineTest tag line mode cycles => fits2 tag && fits1 line && fits1 mode && fits1 cycles
  | .configureBoards tag rows dwell => fits2 tag && fits1 rows && wordFits2 dwell
  | .getBoards tag => fits2 tag
  | .setFocus tag slot => fits2 tag && wordFits1 slot
  | .boardMessage tag text duration => fits2 tag && fits1 text.length && charsFit text && fits2 duration
  | .boardBlank tag slot choice => fits2 tag && fits1 slot && fits1 choice
  | .configureStation tag station kind standby =>
      fits2 tag && fits1 station && fits1 kind && wordFits2 standby
  | .stationOff tag station => fits2 tag && fits1 station
  | .wakeStation tag station => fits2 tag && fits1 station
  | .getStations tag => fits2 tag
  | .readSheet tag slot first count => fits2 tag && fits1 slot && fits2 first && fits1 count
  | .readSheetDone => true
  | .listSlots tag first count => fits2 tag && fits1 first && fits1 count
  | .discardSheet tag slot => fits2 tag && fits1 slot
  | .assignSheet tag slot candidate => fits2 tag && fits1 slot && fits4 candidate
  | .recordBooklet tag candidate ordinal form =>
      fits2 tag && fits4 candidate && fits1 ordinal && fits2 form
  | .setDeclared tag candidate count => fits2 tag && fits4 candidate && fits1 count
  | .openCollection tag slot => fits2 tag && fits1 slot
  | .collectSweep tag slot first count => fits2 tag && fits1 slot && fits2 first && fits2 count
  | .sweepStep => true
  | .acceptException tag candidate => fits2 tag && fits4 candidate
  | .closeBundle tag slot => fits2 tag && fits1 slot
  | .getBundle tag slot number => fits2 tag && fits1 slot && fits2 number
  | .getCollection tag slot first => fits2 tag && fits1 slot && fits2 first
  | .beginKey tag slot questions policy floor tm tf =>
      fits2 tag && fits1 slot && fits1 questions && fits1 policy && fits1 floor && wordFits2 tm && wordFits2 tf
  | .keyPage tag slot first count entries =>
      fits2 tag && fits1 slot && fits2 first && countFits 25 count entries.length && entries.all QuestionEntry.fits
  | .commitKey tag slot => fits2 tag && fits1 slot
  | .getKey tag slot first count => fits2 tag && fits1 slot && fits2 first && fits1 count
  | .remark tag slot => fits2 tag && fits1 slot
  | .remarkStep => true
  | .getResult tag candidate => fits2 tag && fits4 candidate
  | .getResponses tag candidate first count => fits2 tag && fits4 candidate && fits2 first && fits1 count
  | .frameReceived _ _ => true
  | .frameGapTimeout => true
  | .badRequest => true
  | .transmitStart _ => true
  | .restartBegin => true
  | .coldPin => true
  | .powerReturn _ _ => true
  | .powerFail => true
  | .clockTick => true
  | .sessionStart slot => slot < Config.sessionCount
  | .writingStart slot => slot < Config.sessionCount
  | .cutoffEvent slot => slot < Config.sessionCount
  | .personalEnd candidate => fits4 candidate
  | .sessionWarning slot => slot < Config.sessionCount
  | .dayEnd => true
  | .restOver candidate => fits4 candidate
  | .hallHoldInput _ => true
  | .inputHold => true
  | .sync line => line < Config.lineCount
  | .marker line => line < Config.lineCount
  | .poll line => line < Config.lineCount
  | .spareSlot line => line < Config.lineCount
  | .deskReply line bytes => line < Config.lineCount && bytes.length == 12
  | .pollNoReply line => line < Config.lineCount
  | .lineCycleEnd line => line < Config.lineCount
  | .transmitFault line => line < Config.lineCount
  | .loopFrame line _ => line < Config.lineCount
  | .echoRequest line _ => line < Config.lineCount
  | .testCycleEnd line => line < Config.lineCount
  | .boardFrame => true
  | .pageTurn => true
  | .messageExpiry => true
  | .stationRequest station _ => station < Config.stationCount
  | .portGrant => true
  | .sheetHeader station bytes => station < Config.stationCount && bytes.length == 5
  | .sheetRow station bytes => station < Config.stationCount && bytes.length == 9
  | .coverRecord station bytes => station < Config.stationCount && bytes.length == 8
  | .readyChange station _ => station < Config.stationCount
  | .stall station => station < Config.stationCount
  | .warmDone station => station < Config.stationCount
  | .idleTimeout station => station < Config.stationCount
  | .feedWake station => station < Config.stationCount
  | .stationFault station => station < Config.stationCount
  | .markingTake => true
  | .identification => true
  | .scoring => true
  | .coverTaken => true
  | .frameLengthDiscard _ => true

end Sys2Proof
end

