-- ==== Sys2Proof/Decode.lean ====
section
/-! DEFINITION. The opcode table of this block gives no row any bits (its rows are host requests and hall events, not
words), so no word spells a command. What spells a host request is a frame of the host link: its fields are laid out
in Machine/Operands.lean (R186), and `Machine.spells` says when a received frame carries a request. -/

namespace Sys2Proof

/-- The command a word of `nbits` bits spells by the table's bits: none, since no row of the table has bits. -/
def decodeTableWord (_nbits _w : Nat) : Option Instr := none

end Sys2Proof
end

