-- ==== Sys2Proof/Machine/State.lean ====
section
/-! DEFINITION. The state of the CW960 as plain data: the records each of the eleven blocks keeps, in the manual's
own shape, the queue of waiting commands, and the outcomes a command can have. In every enumeration the constructors
stand in the order in which the manual lists the choices, so a choice's number on the link (R186) is its place. -/

namespace Sys2Proof.Machine

/-- A table of numbered records: the written ones in rising order of number. A number that is not listed holds the
record the table's reader names (`tableRead`), the one a cold reset leaves. -/
abbrev Table (α : Type) := List (Nat × α)

/-! ## Link Interface and Notice Queue -/

/-- Result codes 00h to 0Ch of section 9.4. -/
inductive Result where
  | ok | clamped | busy | badRequest | badValue | wrongState | notFound | exists_ | full | noSeat | discrepancy
  | lineInUse | aborted
  deriving DecidableEq, Repr

/-- Detail codes of section 9.4. -/
inductive Detail where
  | none_ | wrongKind | unknownCode | badLength | unknownOption | valueClamped
  | seatOccupied | positionUsed | deskUsed | seatOutOfService | seatTaken | seatReserved | lineUnavailable
  | notAccessible | adjacent | noneEligible
  | seated
  | clockUnset | startPassed | sessionRunning | formUsed
  | lineFault
  | receiptGiven
  | undeclared | missing | extra | noSheet | bundleTableFull | notCollecting
  | thresholdOrder | sheetMarking | remarkRunning | questionRange | badEntry | questionMissing | noResponses
  deriving DecidableEq, Repr

/-- One payload field of a reply or notice, with its encoding of R186. -/
inductive Field where
  /-- A value in `width` bytes, most significant first. -/
  | num (width value : Nat)
  /-- A value that may be absent: all ones when it is. -/
  | opt (width : Nat) (value : Option Nat)
  /-- A two's complement value in `width` bytes. -/
  | int (width : Nat) (value : Int)
  /-- Characters of fixed count, one byte each. -/
  | chars (text : List Char)
  /-- A text: its character count, then its characters. -/
  | text (text : List Char)
  /-- Bytes as they stand. -/
  | bytes (data : List Byte)
  deriving DecidableEq, Repr

/-- A reply on the reply list (R184, R191). `long` marks the reply of an accepted long request. -/
structure Reply where
  tag : Nat
  code : Nat
  result : Result
  fields : List Field
  long : Bool
  deriving DecidableEq, Repr

/-- A complete frame in the receive buffer: the fields of its body (R184). -/
structure Frame where
  kind : Nat
  tag : Nat
  code : Nat
  payload : List Byte
  deriving DecidableEq, Repr

/-- The fault record (R193). -/
structure FaultRecord where
  code : Nat
  tag : Nat
  result : Result
  detail : Detail
  object : Option Nat
  clamped : Bool
  instant : Nat
  deriving DecidableEq, Repr

/-- The option table (R196). -/
structure Options where
  noticeMask : BitVec 32 := 0
  idThreshold : Nat := 128
  stationStandby : Nat := 300
  keepOptionsOnRestart : Bool := false
  deriving DecidableEq, Repr

/-- The cause of a start-up (R195, R201). -/
inductive StartCause where
  | coldPin | coldLost | power | restart
  deriving DecidableEq, Repr

/-- The retention status (R195). -/
inductive Retention where
  | initial | valid
  deriving DecidableEq, Repr

/-- How far a RESTART has come (R200): none taken; taken, its reply on the reply list; its reply being sent. -/
inductive RestartPhase where
  | none_ | taken | sending
  deriving DecidableEq, Repr

/-! ## Seat Map -/

/-- Seat states (R1, R2). -/
inductive SeatState where
  | undefined | free | assigned | inUse | awaitingCollection | outOfService
  deriving DecidableEq, Repr

/-- A seat record (R1); its number is its key in the seat table. -/
structure Seat where
  row : Nat := 0
  column : Nat := 0
  line : Nat := 0
  address : Nat := 0
  accessible : Bool := false
  reserved : Bool := false
  outOfService : Bool := false
  state : SeatState := .undefined
  candidate : Option Nat := none
  deriving DecidableEq, Repr

/-- Separation modes (R8). -/
inductive SepMode where
  | noSep | orthogonal | full
  deriving DecidableEq, Repr

/-- Fill orders (R11). -/
inductive FillOrder where
  | rowMajor | columnMajor
  deriving DecidableEq, Repr

/-- The allocation-in-progress record (R13). `position` is the model's own: how many roster records stand before
the next one the run may take up (log entry 16); `ended` is the model's own too: the run has ended, and its reply is not
yet sent (R15, log entry 47). -/
structure AllocRun where
  slot : Nat
  order : FillOrder
  requested : Nat
  seated : Nat
  lastTaken : Option Nat
  position : Nat
  tag : Nat
  ended : Bool := false
  deriving DecidableEq, Repr

structure SeatMap where
  seats : Table Seat := []
  mode : SepMode := .orthogonal
  /-- The allocation cursor of each session slot, a (row, column) pair (R11); unlisted ones stand at (0, 0). -/
  cursors : Table (Nat × Nat) := []
  alloc : Option AllocRun := none
  deriving DecidableEq, Repr

/-! ## Roster -/

/-- Candidate states (R29). -/
inductive CandState where
  | listed | assigned | present | writing | resting | moving | finished | left | absent | withdrawn | collected
  deriving DecidableEq, Repr

/-- Causes of a candidate's change of state (R29). -/
inductive CandCause where
  | desk | host | allocate | writingStart | cutoff | personalEnd | dayEnd | abort | collection
  deriving DecidableEq, Repr

/-- A recorded instant with the mark of R33: `earlier` when it was recorded under an earlier clock. -/
structure Instant where
  at_ : Nat
  earlier : Bool := false
  deriving DecidableEq, Repr

/-- Categories of a scored question (R172, in the order of R173). -/
inductive Category where
  | correct | wrong | blank | multi | void_
  deriving DecidableEq, Repr

/-- One entry of a response record (R177); the marked set has option A in bit 0. -/
structure Response where
  marked : Byte
  faint : Bool
  category : Category
  score : Int
  deriving DecidableEq, Repr

/-- Status of a result (R176). -/
inductive ResultStatus where
  | current | stale
  deriving DecidableEq, Repr

/-- A candidate's result (R176). -/
structure Marks where
  status : ResultStatus
  generation : Nat
  total : Int
  maximum : Nat
  percent : Nat
  correct : Nat
  wrong : Nat
  blank : Nat
  multi : Nat
  void_ : Nat
  faint : Nat
  review : Bool
  scored : Nat
  remarked : Bool
  deriving DecidableEq, Repr

/-- A candidate record (R25). `personalEnd` holds the frozen E of a FINISHED, LEFT or COLLECTED candidate; while the
candidate is WRITING, RESTING or MOVING its E is computed afresh wherever it is read (`currentEnd`, R67), and so is
END_CLAMPED. `restOverRaised` is the once-per-interval memory of R41. -/
structure Candidate where
  number : Nat
  slot : Nat
  allowance : Nat
  restAllowance : Nat
  needsAccess : Bool
  seat : Option Nat := none
  seatSince : Option Instant := none
  state : CandState := .listed
  stateSince : Instant
  arrival : Option Nat := none
  lastEffective : Option Nat := none
  restTaken : Nat := 0
  restStart : Option Nat := none
  restOverRaised : Bool := false
  moveCredit : Nat := 0
  moveStart : Option Nat := none
  grant : Nat := 0
  personalEnd : Option Nat := none
  outAtEnd : Bool := false
  endClamped : Bool := false
  void_ : Bool := false
  exception : Bool := false
  absencePending : Bool := false
  declared : Option Nat := none
  covers : List Nat := []
  sheetReceived : Bool := false
  marks : Option Marks := none
  responses : Option (List Response) := none
  bundle : Option Nat := none
  deriving DecidableEq, Repr

/-! ## Session Timer -/

/-- Session states (section 3.3). -/
inductive SessState where
  | free | defined | seating | reading | writing | paused | ended | collecting | closed | void_
  deriving DecidableEq, Repr

/-- Causes of a session's change (R52). -/
inductive SessCause where
  | define | host | clock | hall | power | resume | end_ | dayEnd | abort | collection
  deriving DecidableEq, Repr

/-- The pause causes of a session (R49). -/
structure Causes where
  host : Bool := false
  hall : Bool := false
  power : Bool := false
  deriving DecidableEq, Repr

/-- Resume targets (R49). -/
inductive Target where
  | reading | writing
  deriving DecidableEq, Repr

/-- A session record (R49); its slot is its key. `startDue` is the model's own: the clock has advanced into second S
and the start instant of R54 is not yet taken (log entry 12). -/
structure Session where
  paper : List Char := []
  form : Nat := 0
  state : SessState := .free
  start : Nat := 0
  reading : Nat := 0
  writing : Nat := 0
  late : Nat := 0
  bar : Nat := 0
  lock : Nat := 0
  warn1 : Nat := 0
  warn2 : Nat := 0
  grain : Nat := 0
  sheetRequired : Bool := false
  bundleSize : Nat := 0
  startMissed : Bool := false
  closedPause : Nat := 0
  pauseStart : Option Nat := none
  causes : Causes := {}
  target : Option Target := none
  pauseLog : List (Nat × Nat) := []
  horizon : Option Nat := none
  writingStart : Option Nat := none
  cutoffTaken : Option Nat := none
  extension : Nat := 0
  warn1Raised : Bool := false
  warn2Raised : Bool := false
  startDue : Bool := false
  deriving DecidableEq, Repr

structure Timer where
  clock : Nat := 0
  clockUnset : Bool := true
  /-- The copy of the clock in the retained tables (R47). -/
  clockCopy : Nat := 0
  /-- The retained power-fail instant of the last outage (R47). -/
  failInstant : Option Nat := none
  /-- The level of the hall-hold input: asserted or released (R62). -/
  holdInput : Bool := false
  inputHold : Bool := false
  hostHold : Bool := false
  /-- The model's own: the day end of the present second 86,399 has been taken (R72). -/
  dayEndTaken : Bool := false
  sessions : Table Session := []
  deriving DecidableEq, Repr

/-! ## Desk Line Controller -/

/-- Line states (R77). -/
inductive LineState where
  | off | running | lost | test | fault
  deriving DecidableEq, Repr

/-- Causes of a line's change (section 4.6). -/
inductive LineCause where
  | configure | silent | reply | fault | test | testEnd | startUp
  deriving DecidableEq, Repr

/-- Test modes (R96). -/
inductive TestMode where
  | local_ | echo
  deriving DecidableEq, Repr

/-- A line's test record (R96 to R98); `echoes` holds the good-echo count of each address. -/
structure LineTest where
  mode : TestMode
  requested : Nat
  run : Nat := 0
  good : Nat := 0
  bad : Nat := 0
  echoes : Table Nat := []
  tag : Nat
  deriving DecidableEq, Repr

/-- Deliveries to a desk (R86), in the order of the owed set of R78. -/
inductive Delivery where
  | end_ | seat | display
  deriving DecidableEq, Repr

/-- What the open slot of a line awaits an answer to: a poll or probe, or a delivery, and its address (R82, R88). -/
inductive Awaited where
  | poll (address : Nat)
  | delivery (address : Nat) (kind : Delivery)
  deriving DecidableEq, Repr

/-- Display codes, those of R35 in its order, then those of R139. -/
inductive DisplayCode where
  | accepted | unknown | withdrawn | duplicate | wrongSeat | alreadyIn | notOpen | refusedLate | finished
  | notWriting | notResting | refusedPaused | refusedEarly | refusedLocked | notSeated | notFinished | badCount
  deriving DecidableEq, Repr

/-- What the part sends on a desk line in one slot (R81, R82, R88, R97, R98). -/
inductive DeskFrame where
  /-- Hall clock, each session's state and paused flag in slot order, hall-hold flag (R81). -/
  | sync (clock : Nat) (sessions : List (SessState × Bool)) (hold : Bool)
  /-- RUN, or KEEP when set. -/
  | marker (keep : Bool)
  /-- A poll or probe: address and taken mark. -/
  | poll (address : Nat) (mark : Option Bool)
  /-- SEAT: seat, candidate, paper code and session slot, each or blank (R88). -/
  | seat (address : Nat) (seat : Option Nat) (candidate : Option Nat) (paper : Option (List Char × Nat))
  | display (address : Nat) (code : Option DisplayCode)
  /-- END: session slot, delivered end or none, closed mark (R88). -/
  | end_ (address : Nat) (slot : Option Nat) (delivered : Option Nat) (closed : Bool)
  /-- A loop frame of a LOCAL test, joined inside the part (R97). -/
  | loop
  | echoRequest (address : Nat)
  | silent
  deriving DecidableEq, Repr

/-- A line record (R77). The model's own fields: `position`, the slot of the cycle that comes next (0 to N); `keepCycle`,
the cycle in progress is a probe cycle of a LOST line (R93); `replySeen`, a valid reply has arrived in this cycle (R92);
`awaited`, the open slot; `lastSent`, what the part last sent on the pair. -/
structure Line where
  state : LineState := .off
  desks : Nat := 120
  spare : Nat := 3
  autoKeep : Bool := false
  missedCycles : Nat := 0
  probe : Nat := 1
  delivery : Nat := 0
  test : Option LineTest := none
  position : Nat := 0
  keepCycle : Bool := false
  replySeen : Bool := false
  awaited : Option Awaited := none
  lastSent : Option DeskFrame := none
  deriving DecidableEq, Repr

/-- A desk record (R78). `reachable` is the reach; the three `owed` fields are the owed set. -/
structure Desk where
  reachable : Bool := false
  missedPolls : Nat := 0
  owedEnd : Bool := false
  owedSeat : Bool := false
  owedDisplay : Bool := false
  displayCode : Option DisplayCode := none
  /-- Absent before the first ACK_END, then the echoed end, a hall second or none (R78, R89). -/
  ackedEnd : Option (Option Nat) := none
  takenMark : Option Bool := none
  cardPresent : Option Bool := none
  displayOk : Option Bool := none
  buffered : Option Nat := none
  deriving DecidableEq, Repr

structure DeskLines where
  lines : Table Line := []
  /-- Desk records, keyed by `deskKey line address`. -/
  desks : Table Desk := []
  deriving DecidableEq, Repr

/-! ## Board Driver -/

/-- Line attributes (R111). -/
inductive LineAttr where
  | blank | paused | alert | warn | dim | plain
  deriving DecidableEq, Repr

/-- Rendering attributes of a board row (R101). -/
inductive Rendering where
  | normal | reverse | bold | dim
  deriving DecidableEq, Repr

/-- One row of a board frame: 32 character cells and a rendering (R101). -/
structure BoardRow where
  cells : List Char
  rendering : Rendering
  deriving DecidableEq, Repr

structure Boards where
  rows : Nat := 8
  dwell : Nat := 10
  focus : Option Nat := none
  /-- The blank set: session slots, rising, without repeats. -/
  blankSet : List Nat := []
  pageStart : Nat := 0
  dwellCount : Nat := 0
  phase : Nat := 0
  /-- The message standing: its text and its remaining duration in frames (R109). -/
  message : Option (List Char × Nat) := none
  /-- The model's own: the frame last sent to the boards. -/
  lastFrame : Option (List BoardRow) := none
  deriving DecidableEq, Repr

/-! ## Reader Port -/

/-- Station kinds (R114). -/
inductive StationKind where
  | sheet | cover
  deriving DecidableEq, Repr

/-- Station states (R114). -/
inductive StationState where
  | off | standby | warming | idle | transferring | fault
  deriving DecidableEq, Repr

/-- How a station's last transfer ended (R114). -/
inductive LastEnd where
  | done | stall | check | header | fault | restart
  deriving DecidableEq, Repr

/-- Causes of a station's change (R114). -/
inductive StationCause where
  | configure | off | idleTimeout | wake | warmDone | stall | check | header | stationFault | restart | startUp
  deriving DecidableEq, Repr

/-- Commands the part sends a station (R115 to R117). -/
inductive StationCommand where
  | wake | standby
  deriving DecidableEq, Repr

/-- A station record (R114). `lastCommand` is the model's own: the last lamp command sent to the station. -/
structure Station where
  kind : StationKind := .sheet
  state : StationState := .off
  standby : Nat := 300
  idleTimer : Nat := 0
  warmTimer : Nat := 0
  request : Bool := false
  checkFailures : Nat := 0
  lastEnd : Option LastEnd := none
  lastCommand : Option StationCommand := none
  deriving DecidableEq, Repr

/-- The transfer in progress: the granted station, the slot opened for a sheet, whether its header has been taken,
and the row or record the station holds back while its ready line is low (R121 to R125). -/
structure Transfer where
  station : Nat
  slot : Option Nat
  headerTaken : Bool := false
  held : Option (List Byte) := none
  deriving DecidableEq, Repr

structure ReaderPort where
  stations : Table Station := []
  /-- The stations' ready lines as last sampled, set where one is low (R122, R123); an unlisted one is high. -/
  readyLow : Table Bool := []
  lastGranted : Option Nat := none
  transfer : Option Transfer := none
  deriving DecidableEq, Repr

/-! ## Sheet Store -/

/-- Store slot states (R127). -/
inductive SlotState where
  | free | filling | filled | marking | held
  deriving DecidableEq, Repr

/-- Hold reasons (R127). -/
inductive HoldReason where
  | formUnknown | idUnreadable | idUnknown | early | notSat | duplicate | noKey | shortSheet
  deriving DecidableEq, Repr

/-- A store slot (R127); each row of the image holds 8 darkness values. -/
structure Slot where
  state : SlotState := .free
  image : List (List Byte) := []
  form : Option Nat := none
  rowCount : Option Nat := none
  rowsFilled : Nat := 0
  source : Option Nat := none
  fillInstant : Option Nat := none
  holdReason : Option HoldReason := none
  decoded : Option Nat := none
  assigned : Option Nat := none
  receipt : Option Nat := none
  exportMark : Bool := false
  deriving DecidableEq, Repr

/-- A READ_SHEET whose rows are being read (R130): the slot's state, form code and row count when it was taken, and the
rows the store arbiter has served it so far (R129). -/
structure ReadJob where
  tag : Nat
  slot : Nat
  first : Nat
  count : Nat
  state : SlotState
  form : Option Nat
  rowCount : Nat
  rowsRead : Nat := 0
  deriving DecidableEq, Repr

/-- The two reading paths of the store arbiter (R129). -/
inductive ReadPath where
  | marking | export_
  deriving DecidableEq, Repr

structure Store where
  slots : Table Slot := []
  queue : List Nat := []
  readJob : Option ReadJob := none
  lastServed : ReadPath := .export_
  /-- The model's own: the slot whose READ_SHEET reply has been made and is not yet sent (R130). -/
  exporting : Option Nat := none
  deriving DecidableEq, Repr

/-! ## Collection Unit -/

/-- An entry of the Cover Queue (R125); `source = none` is HOST. -/
structure CoverEntry where
  candidate : Nat
  ordinal : Nat
  form : Nat
  source : Option Nat
  appended : Nat
  deriving DecidableEq, Repr

/-- Close causes of a bundle (R149). -/
inductive CloseCause where
  | size | host | sessionClosed
  deriving DecidableEq, Repr

/-- A bundle header in use (R149); it is OPEN while `closed` is absent and CLOSED once it is set. -/
structure Bundle where
  slot : Nat
  number : Nat
  isOpen : Bool
  entries : List Nat
  opened : Nat
  closed : Option Nat := none
  closeCause : Option CloseCause := none
  deriving DecidableEq, Repr

/-- The sweep-in-progress record (R142). `ended` is the model's own: the sweep has ended, and its reply is not yet sent
(R145, log entry 47). -/
structure Sweep where
  slot : Nat
  first : Nat
  count : Nat
  next : Nat
  swept : Nat := 0
  collected : Nat := 0
  bundlesClosed : Nat := 0
  tag : Nat
  ended : Bool := false
  deriving DecidableEq, Repr

structure Collection where
  covers : List CoverEntry := []
  /-- The 256 bundle headers; `none` is a free one. -/
  bundles : Table (Option Bundle) := []
  /-- The next bundle number of each session slot; unlisted ones are 1. -/
  nextBundle : Table Nat := []
  /-- The open bundle of each session slot, a header or none. -/
  openBundle : Table (Option Nat) := []
  sweep : Option Sweep := none
  deriving DecidableEq, Repr

/-! ## Marking Engine -/

/-- Key states (R157). -/
inductive KeyState where
  | empty | loading | ready
  deriving DecidableEq, Repr

/-- Question kinds (R158). -/
inductive QuestionKind where
  | single | multi | void_
  deriving DecidableEq, Repr

/-- Multi-mark policies (R157). -/
inductive Policy where
  | wrong | blank
  deriving DecidableEq, Repr

/-- A defined question entry (R158); the correct set has option A in bit 0. -/
structure Question where
  kind : QuestionKind
  correct : Byte
  weight : Nat
  penalty : Nat
  deriving DecidableEq, Repr

/-- An answer key (R157); the entries are keyed by question number, and an unlisted or `none` one is undefined. -/
structure Key where
  state : KeyState := .empty
  form : Option Nat := none
  questions : Option Nat := none
  policy : Policy := .wrong
  floor : Bool := false
  markThreshold : Nat := 160
  faintThreshold : Nat := 96
  generation : Nat := 0
  entries : Table (Option Question) := []
  deriving DecidableEq, Repr

/-- Phases of a sheet in flight (R164). -/
inductive Phase where
  | identifying | scoring
  deriving DecidableEq, Repr

/-- The in-flight sheet record (R164). -/
structure InFlight where
  slot : Nat
  phase : Phase
  identity : Option Nat
  session : Option Nat := none
  generation : Option Nat := none
  rowsRead : Nat := 0
  deriving DecidableEq, Repr

/-- The remark-in-progress record (R180); `position` counts the roster records the run has passed. -/
structure Remark where
  slot : Nat
  generation : Nat
  position : Nat := 0
  remarked : Nat := 0
  short : Nat := 0
  tag : Nat
  deriving DecidableEq, Repr

structure Marking where
  keys : Table Key := []
  inFlight : Option InFlight := none
  remark : Option Remark := none
  deriving DecidableEq, Repr

/-! ## Notices -/

/-- Desk event kinds (R83), NONE to ACK_END. -/
inductive EventKind where
  | none_ | signIn | restOut | restIn | leave | call | declare_ | ackEnd
  deriving DecidableEq, Repr

/-- Reasons of LATE_EVENT (R34). -/
inductive LateReason where
  | seatChanged | afterState
  deriving DecidableEq, Repr

/-- Reasons of COVER_REFUSED (R136). -/
inductive CoverReason where
  | formUnknown | idUnknown | early | notSat | badOrdinal | duplicate | extraAfterCollection
  deriving DecidableEq, Repr

/-- Why the candidate number of a sheet could not be read (R170). -/
inductive Unreadable where
  | noRow (position : Nat) | severalRows (position : Nat) | zeroNumber
  deriving DecidableEq, Repr

/-- The notices of section 9.4, in the order of their codes 01h to 11h, each with what its rule says it carries. -/
inductive Notice where
  /-- R201; the last field holds, for POWER, the power-fail instant and the clock at return. -/
  | started (cause : StartCause) (retention : Retention) (clock : Nat) (unset : Bool) (outage : Option (Nat × Nat))
  /-- R52. -/
  | sessionState (slot : Nat) (paper : List Char) (previous new : SessState) (causes : Causes) (cause : SessCause)
      (instant : Nat)
  /-- R71. -/
  | sessionWarning (slot : Nat) (paper : List Char) (number baseEnd remaining : Nat)
  /-- R54. -/
  | startMissed (slot : Nat) (paper : List Char) (start : Nat)
  /-- R29. -/
  | candidateState (candidate slot : Nat) (seat : Option Nat) (previous new : CandState) (cause : CandCause)
      (since : Nat)
  /-- R36; `held` is the seat the card's candidate already holds, for DUPLICATE. -/
  | signInRefused (reason : DisplayCode) (seat card effective : Nat) (held : Option Nat)
  /-- R34. -/
  | lateEvent (seat : Nat) (candidate : Option Nat) (kind : EventKind) (stamp : Nat) (state : CandState)
      (since : Nat) (reason : LateReason)
  /-- R41. -/
  | restOver (candidate : Nat) (seat : Option Nat) (restAllowance running : Nat)
  /-- R43. -/
  | deskCall (seat line address : Nat) (candidate : Option Nat) (state : Option CandState) (effective : Nat)
  /-- R90, R91. -/
  | deskReach (line address : Nat) (seat : Option Nat) (reachable : Bool) (displayOk : Option Bool)
  /-- Section 4.6. -/
  | lineState (line : Nat) (previous new : LineState) (cause : LineCause) (instant : Nat)
  /-- R62. -/
  | hallHold (inputHold hostHold active : Bool) (instant : Nat)
  /-- R114; the last field holds, for an unfinished transfer, the slot it had opened and the rows moved. -/
  | stationState (station : Nat) (kind : StationKind) (previous new : StationState) (cause : StationCause)
      (instant : Nat) (transfer : Option (Option Nat × Nat))
  /-- R170; `identity` with whether it was assigned (else decoded); `shortage` is the question rows held and Q. -/
  | sheetHeld (slot : Nat) (form : Option Nat) (reason : HoldReason) (session : Option Nat)
      (identity : Option (Nat × Bool)) (receipt : Bool) (unreadable : Option Unreadable)
      (shortage : Option (Nat × Nat))
  /-- R175. -/
  | sheetMarked (candidate session slot generation : Nat) (total : Int) (maximum percent : Nat) (review : Bool)
  /-- R136; the last field is the candidate's state and declaration when test 2 found one. -/
  | coverRefused (reason : CoverReason) (entry : CoverEntry) (session : Option Nat)
      (found : Option (CandState × Option Nat))
  /-- R197. -/
  | noticesLost (count instant : Nat)
  deriving DecidableEq, Repr

/-- A frame the transmitter has started (R192). -/
inductive TxFrame where
  | reply (r : Reply)
  | notice (n : Notice)
  deriving DecidableEq, Repr

structure Link where
  /-- The frame being assembled, its sync bytes included; empty, or the first sync byte alone, while the receiver hunts
  (R187, R202). -/
  assembly : List Byte := []
  /-- The receive buffer, oldest frame first (R188). -/
  buffer : List Frame := []
  /-- The reply list, oldest first (R191). -/
  replies : List Reply := []
  /-- The Notice Queue, oldest first, and the lost count (R197). -/
  notices : List Notice := []
  lost : Nat := 0
  fault : Option FaultRecord := none
  nonOk : Nat := 0
  discardLength : Nat := 0
  discardGap : Nat := 0
  discardCheck : Nat := 0
  discardOverrun : Nat := 0
  options : Options := {}
  /-- The baud rate in use: 460,800 when set, else 115,200. -/
  fastBaud : Bool := false
  lastStart : StartCause := .coldPin
  retention : Retention := .initial
  restart : RestartPhase := .none_
  /-- The model's own: the frame the transmitter last started. -/
  lastSent : Option TxFrame := none
  deriving DecidableEq, Repr

/-! ## The whole state -/

/-- The state of the CW960 and the queue of commands that are waiting, first in, first out. -/
structure State where
  /-- The commands that are waiting, oldest first (the model's own). -/
  pending : List Instr := []
  /-- Main power is present (R199). -/
  powered : Bool := true
  /-- The index of the next free value (the model's own; log entry 4). -/
  fresh : Nat := 0
  link : Link := {}
  seatMap : SeatMap := {}
  roster : List Candidate := []
  timer : Timer := {}
  desk : DeskLines := {}
  boards : Boards := {}
  reader : ReaderPort := {}
  store : Store := {}
  coll : Collection := {}
  marking : Marking := {}
  deriving DecidableEq, Repr

/-- The machine right after a cold reset by the RESET input: every block as its start-up table gives (R24, R46, R74,
R100, R113, R134, R156, R183, R202), the STARTED notice of that start-up queued (R201), no command waiting. -/
def State.reset : State :=
  { link := { notices := [.started .coldPin .initial 0 true none] } }

/-- Faults of a step. The manual describes no command that stops the part, so there is none: no command of this
model ends in a fault. -/
inductive Fault where
  deriving DecidableEq, Repr

/-- Refusals of a step. -/
inductive Refusal where
  /-- Raised by `exec` for a command without a meaning (safe: the run stops); every command has one, so no arm
  raises it. -/
  | notModelled (mnemonic : String)
  deriving DecidableEq, Repr

end Sys2Proof.Machine
end

