-- ==== Sys2Proof/Machine/Ops.lean ====
section
/-! DEFINITION. The shared operations over the part's records: reading and writing a numbered record, raising a
notice, making a reply, and making a delivery owed at a desk. Every block's meanings are built from these. -/

namespace Sys2Proof.Machine

/-! ## Numbered records -/

/-- The record a table holds under a number, or `d` where none is listed. -/
def tableRead {α : Type} (d : α) : Table α → Nat → α
  | [], _ => d
  | (k, v) :: t, n => if k = n then v else tableRead d t n

/-- The table with the record under a number replaced, the numbers kept rising. -/
def tableWrite {α : Type} : Table α → Nat → α → Table α
  | [], n, x => [(n, x)]
  | (k, v) :: t, n, x =>
    if n < k then (n, x) :: (k, v) :: t else if n = k then (n, x) :: t else (k, v) :: tableWrite t n x

/-- The seat record of a seat number (R1); every seat is UNDEFINED until it is defined. -/
def seatOf (s : State) (n : Nat) : Seat := tableRead {} s.seatMap.seats n

/-- Write a seat record. -/
def putSeat (n : Nat) (x : Seat) (s : State) : State :=
  { s with seatMap := { s.seatMap with seats := tableWrite s.seatMap.seats n x } }

/-- The defined seats with their numbers (R1). -/
def definedSeats (s : State) : List (Nat × Seat) :=
  s.seatMap.seats.filter fun p => decide (p.2.state ≠ .undefined)

/-- The seat that carries a desk: at most one defined seat does (R1, R7). -/
def seatAt (s : State) (line address : Nat) : Option Nat :=
  ((definedSeats s).find? fun p => decide (p.2.line = line ∧ p.2.address = address)).map (·.1)

/-- The allocation cursor of a session slot (R11). -/
def cursorOf (s : State) (slot : Nat) : Nat × Nat := tableRead (0, 0) s.seatMap.cursors slot

/-- Write a session slot's allocation cursor. -/
def putCursor (slot : Nat) (at_ : Nat × Nat) (s : State) : State :=
  { s with seatMap := { s.seatMap with cursors := tableWrite s.seatMap.cursors slot at_ } }

/-- Write the allocation-in-progress record. -/
def putAlloc (r : Option AllocRun) (s : State) : State := { s with seatMap := { s.seatMap with alloc := r } }

/-- The session record of a slot (R49). -/
def sessionOf (s : State) (slot : Nat) : Session := tableRead {} s.timer.sessions slot

/-- Write a session record. -/
def putSession (slot : Nat) (x : Session) (s : State) : State :=
  { s with timer := { s.timer with sessions := tableWrite s.timer.sessions slot x } }

/-- The candidate record with a number, or none (R26). -/
def candidateOf (s : State) (number : Nat) : Option Candidate := s.roster.find? fun c => c.number == number

/-- Write a candidate record over the one with its number. -/
def putCandidate (c : Candidate) (s : State) : State :=
  { s with roster := s.roster.map fun d => if d.number = c.number then c else d }

/-- The candidates of a session in roster order. -/
def candidatesOf (s : State) (slot : Nat) : List Candidate := s.roster.filter fun c => c.slot == slot

/-- The line record of a desk line (R77). -/
def lineOf (s : State) (line : Nat) : Line := tableRead {} s.desk.lines line

/-- Write a line record. -/
def putLine (line : Nat) (x : Line) (s : State) : State :=
  { s with desk := { s.desk with lines := tableWrite s.desk.lines line x } }

/-- The key of a desk record in the desk table. -/
def deskKey (line address : Nat) : Nat := line * 256 + address

/-- The desk record of an address of a line (R78). -/
def deskOf (s : State) (line address : Nat) : Desk := tableRead {} s.desk.desks (deskKey line address)

/-- Write a desk record. -/
def putDesk (line address : Nat) (x : Desk) (s : State) : State :=
  { s with desk := { s.desk with desks := tableWrite s.desk.desks (deskKey line address) x } }

/-- The station record of a reader station (R114). -/
def stationOf (s : State) (station : Nat) : Station := tableRead {} s.reader.stations station

/-- Write a station record. -/
def putStation (station : Nat) (x : Station) (s : State) : State :=
  { s with reader := { s.reader with stations := tableWrite s.reader.stations station x } }

/-- Write the transfer in progress. -/
def putTransfer (t : Option Transfer) (s : State) : State := { s with reader := { s.reader with transfer := t } }

/-- A station's ready line is low (R123). -/
def readyIsLow (s : State) (station : Nat) : Bool := tableRead false s.reader.readyLow station

/-- Write the level of a station's ready line. -/
def putReady (station : Nat) (low : Bool) (s : State) : State :=
  { s with reader := { s.reader with readyLow := tableWrite s.reader.readyLow station low } }

/-- The record of a store slot (R127). -/
def slotOf (s : State) (n : Nat) : Slot := tableRead {} s.store.slots n

/-- Write a store slot. -/
def putSlot (n : Nat) (x : Slot) (s : State) : State :=
  { s with store := { s.store with slots := tableWrite s.store.slots n x } }

/-- Write the marking queue. -/
def putQueue (q : List Nat) (s : State) : State := { s with store := { s.store with queue := q } }

/-- The bundle under a header, or none for a free header (R149). -/
def bundleOf (s : State) (header : Nat) : Option Bundle := tableRead none s.coll.bundles header

/-- Write a bundle header. -/
def putBundle (header : Nat) (b : Option Bundle) (s : State) : State :=
  { s with coll := { s.coll with bundles := tableWrite s.coll.bundles header b } }

/-- The next bundle number of a session slot (R149). -/
def nextBundleOf (s : State) (slot : Nat) : Nat := tableRead 1 s.coll.nextBundle slot

/-- The open bundle of a session slot, a header or none (R149). -/
def openBundleOf (s : State) (slot : Nat) : Option Nat := tableRead none s.coll.openBundle slot

/-- Write a session slot's open bundle. -/
def putOpenBundle (slot : Nat) (h : Option Nat) (s : State) : State :=
  { s with coll := { s.coll with openBundle := tableWrite s.coll.openBundle slot h } }

/-- Write a session slot's next bundle number. -/
def putNextBundle (slot n : Nat) (s : State) : State :=
  { s with coll := { s.coll with nextBundle := tableWrite s.coll.nextBundle slot n } }

/-- Write the Cover Queue. -/
def putCovers (q : List CoverEntry) (s : State) : State := { s with coll := { s.coll with covers := q } }

/-- Write the sweep-in-progress record. -/
def putSweep (r : Option Sweep) (s : State) : State := { s with coll := { s.coll with sweep := r } }

/-- The answer key of a session slot (R157). -/
def keyOf (s : State) (slot : Nat) : Key := tableRead {} s.marking.keys slot

/-- Write an answer key. -/
def putKey (slot : Nat) (k : Key) (s : State) : State :=
  { s with marking := { s.marking with keys := tableWrite s.marking.keys slot k } }

/-- Write the in-flight sheet record. -/
def putInFlight (r : Option InFlight) (s : State) : State := { s with marking := { s.marking with inFlight := r } }

/-- Write the remark-in-progress record. -/
def putRemark (r : Option Remark) (s : State) : State := { s with marking := { s.marking with remark := r } }

/-- Apply an operation for each item of a list, in order. -/
def forEach {α : Type} (xs : List α) (f : α → State → State) (s : State) : State :=
  xs.foldl (fun t x => f x t) s

/-- A number put into a rising list without repeats, as the model keeps a small set. -/
def insertRising (k : Nat) : List Nat → List Nat
  | [] => [k]
  | n :: ns => if k < n then k :: n :: ns else if k = n then n :: ns else n :: insertRising k ns

/-! ## The Notice Queue -/

/-- A 16-bit count grows by one, stopping at 65,535. -/
def bump (n : Nat) : Nat := min Config.countStop (n + 1)

/-- The code of a notice (section 9.4). -/
def noticeCode (n : Notice) : Nat := n.ctorIdx + 1

/-- A notice joins the Notice Queue, is masked, or is dropped and counted (R197). -/
def raise (n : Notice) (s : State) : State :=
  if s.link.options.noticeMask.getLsbD (noticeCode n) then s
  else if s.link.notices.length < Config.noticeCount then
    { s with link := { s.link with notices := s.link.notices ++ [n] } }
  else { s with link := { s.link with lost := bump s.link.lost } }

/-- Raise a notice where there is one. -/
def raiseSome (n : Option Notice) (s : State) : State :=
  match n with
  | none => s
  | some x => raise x s

/-! ## Replies and the fault record -/

/-- The request a reply answers: its tag and its code (R184). -/
structure Req where
  tag : Nat
  code : Nat
  deriving DecidableEq, Repr

/-- Write the fault record for a reply that is not OK, and count it (R193). -/
def recordFault (q : Req) (result : Result) (detail : Detail) (object : Option Nat) (s : State) : State :=
  { s with link := { s.link with
      fault := some { code := q.code, tag := q.tag, result := result, detail := detail, object := object,
                      clamped := decide (result = .clamped), instant := s.timer.clock }
      nonOk := bump s.link.nonOk } }

/-- A reply is made: it joins the tail of the reply list, however long that is (log entry 50), and one that is not OK is
recorded (R191, R193). -/
def makeReply (q : Req) (result : Result) (detail : Detail) (object : Option Nat) (fields : List Field)
    (long : Bool) (s : State) : State :=
  let t := { s with link := { s.link with
    replies := s.link.replies ++ [{ tag := q.tag, code := q.code, result := result, fields := fields, long := long }] } }
  if result = .ok then t else recordFault q result detail object t

/-- A short reply of OK. -/
def ok (q : Req) (fields : List Field) (s : State) : State := makeReply q .ok .none_ none fields false s

/-- A short reply of CLAMPED (R193: its detail is VALUE_CLAMPED). -/
def clampedReply (q : Req) (object : Option Nat) (fields : List Field) (s : State) : State :=
  makeReply q .clamped .valueClamped object fields false s

/-- A short reply that refuses the request. -/
def refuse (q : Req) (result : Result) (detail : Detail) (object : Option Nat) (s : State) : State :=
  makeReply q result detail object [] false s

/-- A refusal without a finer reason. -/
def refusePlain (q : Req) (result : Result) (s : State) : State := refuse q result .none_ none s

/-! ## Deliveries owed at a desk -/

/-- The desk's record takes new deliveries: its address is one of 1 to D, since the record of a desk above D is changed only
by CONFIGURE_LINE and the start-ups (R82), and its line is not in FAULT, which freezes the owed sets (R95). -/
def deskTakes (s : State) (line address : Nat) : Bool :=
  decide (1 ≤ address ∧ address ≤ (lineOf s line).desks ∧ (lineOf s line).state ≠ .fault)

/-- A desk's owed set is changed where its record takes new deliveries, and left as it is elsewhere (R82, R86, R95). -/
def oweAt (line address : Nat) (f : Desk → Desk) (s : State) : State :=
  if deskTakes s line address then putDesk line address (f (deskOf s line address)) s else s

/-- END is made owed at a desk (R86). -/
def oweEnd (line address : Nat) (s : State) : State :=
  oweAt line address (fun d => { d with owedEnd := true }) s

/-- SEAT is made owed at a desk, and END with it (R86). -/
def oweSeat (line address : Nat) (s : State) : State :=
  oweAt line address (fun d => { d with owedSeat := true, owedEnd := true }) s

/-- DISPLAY is made owed at a desk with a code; a newer code replaces an owed one (R35, R86). -/
def oweDisplay (line address : Nat) (code : DisplayCode) (s : State) : State :=
  oweAt line address (fun d => { d with owedDisplay := true, displayCode := some code }) s

/-- END is made owed at a seat's desk. -/
def oweEndAtSeat (n : Nat) (s : State) : State := oweEnd (seatOf s n).line (seatOf s n).address s

/-- SEAT is made owed at a seat's desk. -/
def oweSeatAtSeat (n : Nat) (s : State) : State := oweSeat (seatOf s n).line (seatOf s n).address s

/-- END is made owed at the desk of a candidate's seat, if it names one. -/
def oweEndAt (c : Candidate) (s : State) : State :=
  match c.seat with
  | none => s
  | some n => oweEndAtSeat n s

/-- END is made owed at every polled desk of a line, addresses 1 to D (R94, R99). -/
def oweEndOnLine (line : Nat) (s : State) : State :=
  forEach ((List.range (lineOf s line).desks).map (· + 1)) (fun a => oweEnd line a) s

/-! ## Store slots -/

/-- A slot becomes FREE: every field but the image and the export mark is cleared (R127). -/
def freeSlot (n : Nat) (s : State) : State :=
  putSlot n { image := (slotOf s n).image, exportMark := (slotOf s n).exportMark } s

/-- The store slots in number order. -/
def allSlots (s : State) : List (Nat × Slot) := (List.range Config.storeCount).map fun n => (n, slotOf s n)

end Sys2Proof.Machine
end

