-- ==== Sys2Proof/Machine/Operands.lean ====
section
/-! DEFINITION. The operand and wire forms: how a choice number names a choice, how payload fields are encoded (R186),
the check of a frame (R185), the frame layout (R184), the payload layout of every host request (section 9.4 with the
owning chapters), the desk poll reply (R83) and the 8-bit sum checks of the hall-side ports. -/

namespace Sys2Proof.Machine

/-! ## Choices by number (R186) -/

/-- The choice with a number, in the order the manual lists the choices. -/
def choose {α : Type} (choices : List α) (n : Nat) : Option α := choices[n]?

/-- Yes and set are 1, no and clear are 0 (R186). -/
def chooseFlag (n : Nat) : Option Bool := choose [false, true] n
def chooseSepMode (n : Nat) : Option SepMode := choose [.noSep, .orthogonal, .full] n
def chooseOrder (n : Nat) : Option FillOrder := choose [.rowMajor, .columnMajor] n
def chooseTestMode (n : Nat) : Option TestMode := choose [.local_, .echo] n
def chooseStationKind (n : Nat) : Option StationKind := choose [.sheet, .cover] n
def choosePolicy (n : Nat) : Option Policy := choose [.wrong, .blank] n
def chooseQuestionKind (n : Nat) : Option QuestionKind := choose [.single, .multi, .void_] n
def chooseEventKind (n : Nat) : Option EventKind :=
  choose [.none_, .signIn, .restOut, .restIn, .leave, .call, .declare_, .ackEnd] n

/-- A candidate number lies in 1 to 99,999,999. -/
def candidateInRange (n : Nat) : Bool := 1 ≤ n && n ≤ 99999999

/-- The revision, 1 to 255 (R195); which one is free (log entry 3). -/
def revision : Nat := Config.revisionSeed.toNat % 255 + 1

/-- How long a ready line has been low, 0 to 2,000 ms (R119, R123); which is free (log entry 4). -/
def readyLowReading (fresh : Nat) : Nat := (Config.readyLowTime fresh).toNat % 2001

/-! ## Field encodings (R186) -/

/-- A number in bytes, most significant first. -/
def bigEndian : (width : Nat) → Nat → List Byte
  | 0, _ => []
  | w + 1, v => bigEndian w (v / 256) ++ [BitVec.ofNat 8 v]

/-- The number some bytes spell, most significant first. -/
def fromBigEndian (bytes : List Byte) : Nat := bytes.foldl (fun acc b => acc * 256 + b.toNat) 0

/-- All ones in a field of some bytes: a word, or an absent optional field. -/
def allOnes (width : Nat) : List Byte := List.replicate width 255

/-- A character as one ASCII byte. -/
def charByte (c : Char) : Byte := BitVec.ofNat 8 c.toNat

/-- The bytes of one payload field. -/
def encodeField : Field → List Byte
  | .num w v => bigEndian w v
  | .opt w none => allOnes w
  | .opt w (some v) => bigEndian w v
  | .int w v => bigEndian w (v % (256 ^ w : Nat)).toNat
  | .chars t => t.map charByte
  | .text t => BitVec.ofNat 8 t.length :: t.map charByte
  | .bytes d => d

/-- The payload some fields make, in their order. -/
def encodeFields (fields : List Field) : List Byte := fields.flatMap encodeField

/-- A value in one byte. -/
def f1 (v : Nat) : Field := .num 1 v
/-- A value in two bytes. -/
def f2 (v : Nat) : Field := .num 2 v
/-- A value in four bytes. -/
def f4 (v : Nat) : Field := .num 4 v
/-- A flag in one byte. -/
def fb (b : Bool) : Field := .num 1 b.toNat
/-- An optional value in one byte. -/
def o1 (v : Option Nat) : Field := .opt 1 v
/-- An optional value in two bytes. -/
def o2 (v : Option Nat) : Field := .opt 2 v
/-- An optional value in four bytes. -/
def o4 (v : Option Nat) : Field := .opt 4 v

/-- A set of small numbers as one bit per member (R186). -/
def setBits (members : List Nat) : Nat := members.foldl (fun acc m => acc ||| 2 ^ m) 0

/-- The pause causes as a set, in the order R49 lists them. -/
def causeBits (c : Causes) : Nat := c.host.toNat + 2 * c.hall.toNat + 4 * c.power.toNat

/-- The owed set in the order R78 lists it. -/
def owedBits (d : Desk) : Nat := d.owedEnd.toNat + 2 * d.owedSeat.toNat + 4 * d.owedDisplay.toNat

/-! ## Result, detail and notice codes (section 9.4) -/

/-- Result codes 00h to 0Ch. -/
def resultCode (r : Result) : Nat := r.ctorIdx

/-- Detail codes. -/
def detailCode : Detail → Nat
  | .none_ => 0x00 | .wrongKind => 0x01 | .unknownCode => 0x02 | .badLength => 0x03 | .unknownOption => 0x04
  | .valueClamped => 0x0F
  | .seatOccupied => 0x10 | .positionUsed => 0x11 | .deskUsed => 0x12 | .seatOutOfService => 0x13
  | .seatTaken => 0x14 | .seatReserved => 0x15 | .lineUnavailable => 0x16 | .notAccessible => 0x17
  | .adjacent => 0x18 | .noneEligible => 0x19
  | .seated => 0x20
  | .clockUnset => 0x30 | .startPassed => 0x31 | .sessionRunning => 0x32 | .formUsed => 0x33
  | .lineFault => 0x40
  | .receiptGiven => 0x50
  | .undeclared => 0x60 | .missing => 0x61 | .extra => 0x62 | .noSheet => 0x63 | .bundleTableFull => 0x64
  | .notCollecting => 0x65
  | .thresholdOrder => 0x70 | .sheetMarking => 0x71 | .remarkRunning => 0x72 | .questionRange => 0x73
  | .badEntry => 0x74 | .questionMissing => 0x75 | .noResponses => 0x76

/-- A detail code as a field. -/
def detailField (d : Detail) : Field := f1 (detailCode d)

/-- The payload fields of a notice, as the rule that raises it lists them. The reason of SIGN_IN_REFUSED is sent as its
place among all display codes of R35, the model's choice (R36, log entry 53), as are the 2 bytes of the rows moved and of the
question rows held (R114, R170, log entry 14), that SHEET_MARKED has R175's fields and none for the receipt (R168, log entry
69), that DESK_REACH sends an unknown display ok as an absent field (R78, log entry 73), and that SHEET_HELD sends the
unreadable digit position and then one choice, no row, several rows or number 00000000, each absent where it says nothing
(R170, log entry 76). -/
def noticeFields : Notice → List Field
  | .started cause retention clock unset outage =>
      [f1 cause.ctorIdx, f1 revision, f1 retention.ctorIdx, f4 clock, fb unset,
       o4 (outage.map (·.1)), o4 (outage.map (·.2))]
  | .sessionState slot paper previous new causes cause instant =>
      [f1 slot, .chars paper, f1 previous.ctorIdx, f1 new.ctorIdx, f1 (causeBits causes), f1 cause.ctorIdx, f4 instant]
  | .sessionWarning slot paper number baseEnd remaining =>
      [f1 slot, .chars paper, f1 number, f4 baseEnd, f2 remaining]
  | .startMissed slot paper start => [f1 slot, .chars paper, f4 start]
  | .candidateState candidate slot seat previous new cause since =>
      [f4 candidate, f1 slot, o2 seat, f1 previous.ctorIdx, f1 new.ctorIdx, f1 cause.ctorIdx, f4 since]
  | .signInRefused reason seat card effective held =>
      [f1 reason.ctorIdx, f2 seat, f4 card, f4 effective, o2 held]
  | .lateEvent seat candidate kind stamp state since reason =>
      [f2 seat, o4 candidate, f1 kind.ctorIdx, f4 stamp, f1 state.ctorIdx, f4 since, f1 reason.ctorIdx]
  | .restOver candidate seat restAllowance running => [f4 candidate, o2 seat, f2 restAllowance, f4 running]
  | .deskCall seat line address candidate state effective =>
      [f2 seat, f1 line, f2 address, o4 candidate, o1 (state.map (·.ctorIdx)), f4 effective]
  | .deskReach line address seat reachable displayOk =>
      [f1 line, f2 address, o2 seat, f1 (if reachable then 0 else 1), o1 (displayOk.map Bool.toNat)]
  | .lineState line previous new cause instant =>
      [f1 line, f1 previous.ctorIdx, f1 new.ctorIdx, f1 cause.ctorIdx, f4 instant]
  | .hallHold inputHold hostHold active instant => [fb inputHold, fb hostHold, fb active, f4 instant]
  | .stationState station kind previous new cause instant transfer =>
      [f1 station, f1 kind.ctorIdx, f1 previous.ctorIdx, f1 new.ctorIdx, f1 cause.ctorIdx, f4 instant,
       o1 (transfer.bind (·.1)), o2 (transfer.map (·.2))]
  | .sheetHeld slot form reason session identity receipt unreadable shortage =>
      [f1 slot, o2 form, f1 reason.ctorIdx, o1 session, o4 (identity.map (·.1)),
       o1 (identity.map fun p => p.2.toNat), fb receipt,
       o1 (match unreadable with
         | some (.noRow k) => some k
         | some (.severalRows k) => some k
         | _ => none),
       o1 (unreadable.map (·.ctorIdx)), o2 (shortage.map (·.1)), o1 (shortage.map (·.2))]
  | .sheetMarked candidate session slot generation total maximum percent review =>
      [f4 candidate, f1 session, f1 slot, f1 generation, .int 2 total, f2 maximum, f2 percent, fb review]
  | .coverRefused reason entry session found =>
      [f1 reason.ctorIdx, f4 entry.candidate, f1 entry.ordinal, f2 entry.form, f1 (entry.source.getD 4),
       f4 entry.appended, o1 session, o1 (found.map fun p => p.1.ctorIdx), o1 (found.bind (·.2))]
  | .noticesLost count instant => [f2 count, f4 instant]

/-! ## Frames (R184, R185) -/

/-- One bit step of the check register, polynomial x^16 + x^12 + x^5 + 1 (R185). -/
def crcBit (r : BitVec 16) : BitVec 16 := if r.msb then (r <<< 1) ^^^ 0x1021 else r <<< 1

/-- One byte into the check register, most significant bit first (R185). -/
def crcByte (r : BitVec 16) (b : Byte) : BitVec 16 :=
  (List.range 8).foldl (fun x _ => crcBit x) (r ^^^ (b.zeroExtend 16 <<< 8))

/-- The check of a frame body: the register starts at FFFFh and is sent as it stands (R185). -/
def crc16 (body : List Byte) : BitVec 16 := body.foldl crcByte 0xFFFF

/-- The body of a frame: kind, tag, code and payload (R184). -/
def frameBody (f : Frame) : List Byte := bigEndian 1 f.kind ++ bigEndian 2 f.tag ++ bigEndian 1 f.code ++ f.payload

/-- The bytes of a frame on the link (R184). -/
def frameWire (f : Frame) : List Byte :=
  [0xC9, 0x36] ++ bigEndian 2 (frameBody f).length ++ frameBody f ++ bigEndian 2 (crc16 (frameBody f)).toNat

/-- The frame a body of at least four bytes spells (R184). -/
def parseBody : List Byte → Option Frame
  | k :: t1 :: t0 :: c :: payload =>
      some { kind := k.toNat, tag := fromBigEndian [t1, t0], code := c.toNat, payload := payload }
  | _ => none

/-- The frame that carries a reply: its payload begins with the code of the request it answers (R184). -/
def replyFrame (r : Reply) : Frame :=
  { kind := 2, tag := r.tag, code := resultCode r.result, payload := bigEndian 1 r.code ++ encodeFields r.fields }

/-- The frame that carries a notice: its tag is 0 (R184). -/
def noticeFrame (n : Notice) : Frame :=
  { kind := 3, tag := 0, code := noticeCode n, payload := encodeFields (noticeFields n) }

/-- The bytes of a frame the transmitter starts. -/
def txWire : TxFrame → List Byte
  | .reply r => frameWire (replyFrame r)
  | .notice n => frameWire (noticeFrame n)

/-! ## Request payloads (R186, R189) -/

/-- The payload length rule of a request (R189). -/
inductive Layout where
  /-- The fields have one length. -/
  | fixed (length : Nat)
  /-- Fixed fields, the last of them the one-byte count, then `entry` bytes for each of up to `limit` entries. -/
  | list (fixed entry limit : Nat)
  /-- A text, then fields of one length. -/
  | text (after : Nat)
  deriving DecidableEq, Repr

/-- The request codes of section 9.4 with the payload length their fields give; none for any other code. -/
def requestLayout (code : Nat) : Option Layout :=
  match code with
  | 0x01 => some (.fixed 0) | 0x02 => some (.fixed 0) | 0x03 => some (.fixed 5) | 0x04 => some (.fixed 1)
  | 0x05 => some (.fixed 0)
  | 0x10 => some (.list 1 13 64) | 0x11 => some (.fixed 3) | 0x12 => some (.fixed 0) | 0x13 => some (.fixed 1)
  | 0x14 => some (.fixed 5) | 0x15 => some (.fixed 6) | 0x16 => some (.fixed 4) | 0x17 => some (.fixed 7)
  | 0x20 => some (.list 1 9 16) | 0x21 => some (.fixed 9) | 0x22 => some (.fixed 4) | 0x23 => some (.fixed 4)
  | 0x24 => some (.fixed 4) | 0x25 => some (.fixed 4) | 0x26 => some (.fixed 4)
  | 0x30 => some (.fixed 0) | 0x31 => some (.fixed 3) | 0x32 => some (.fixed 31) | 0x33 => some (.fixed 1)
  | 0x34 => some (.fixed 1) | 0x35 => some (.fixed 1) | 0x36 => some (.fixed 1) | 0x37 => some (.fixed 1)
  | 0x38 => some (.fixed 1) | 0x39 => some (.fixed 0) | 0x3A => some (.fixed 0) | 0x3B => some (.fixed 3)
  | 0x3C => some (.fixed 6) | 0x3D => some (.fixed 1)
  | 0x40 => some (.fixed 4) | 0x41 => some (.fixed 1) | 0x42 => some (.fixed 4) | 0x43 => some (.fixed 3)
  | 0x50 => some (.fixed 3) | 0x51 => some (.fixed 0) | 0x52 => some (.fixed 1) | 0x53 => some (.text 2)
  | 0x54 => some (.fixed 2)
  | 0x60 => some (.fixed 4) | 0x61 => some (.fixed 1) | 0x62 => some (.fixed 1) | 0x63 => some (.fixed 0)
  | 0x64 => some (.fixed 4) | 0x65 => some (.fixed 2) | 0x66 => some (.fixed 1) | 0x67 => some (.fixed 5)
  | 0x70 => some (.fixed 7) | 0x71 => some (.fixed 5) | 0x72 => some (.fixed 1) | 0x73 => some (.fixed 5)
  | 0x74 => some (.fixed 4) | 0x75 => some (.fixed 1) | 0x76 => some (.fixed 3) | 0x77 => some (.fixed 3)
  | 0x80 => some (.fixed 8) | 0x81 => some (.list 4 4 25) | 0x82 => some (.fixed 1) | 0x83 => some (.fixed 4)
  | 0x84 => some (.fixed 1) | 0x85 => some (.fixed 4) | 0x86 => some (.fixed 7)
  | _ => none

/-- The payload length is the one the request's fields give (R189, test 3). -/
def lengthFits (l : Layout) (payload : List Byte) : Bool :=
  match l with
  | .fixed n => payload.length == n
  | .list fixed entry limit =>
      decide (fixed ≤ payload.length) &&
        (let count := oneByteCount (payload.getD (fixed - 1) 0).toNat
         decide (limit < count) || payload.length == fixed + count * entry)
  | .text after => decide (1 ≤ payload.length) && payload.length == 1 + (payload.getD 0 0).toNat + after

/-- The first test of R189 a buffered frame fails, or none. -/
def frameFailure (f : Frame) : Option Detail :=
  if f.kind ≠ 1 then some .wrongKind
  else match requestLayout f.code with
    | none => some .unknownCode
    | some l => if lengthFits l f.payload then none else some .badLength

def seatEntryFields (e : SeatEntry) : List Field :=
  [f1 e.kind, f2 e.seat, f2 e.row, f2 e.column, f1 e.line, f2 e.address, f1 e.accessible, f1 e.reserved,
   f1 e.outOfService]

def candidateEntryFields (e : CandidateEntry) : List Field :=
  [f4 e.number, f1 e.slot, f1 e.allowance, f2 e.restAllowance, f1 e.needsAccess]

def questionEntryFields (e : QuestionEntry) : List Field :=
  [f1 e.kind, .bytes [e.correct], f1 e.weight, f1 e.penalty]

def sessionEntryFields (e : SessionEntry) : List Field :=
  [.chars e.paper, f2 e.form, f4 e.start, f2 e.reading, f2 e.writing, f2 e.late, f2 e.bar, f2 e.lock, f2 e.warn1,
   f2 e.warn2, f2 e.grain, f1 e.sheetRequired, o1 e.bundleSize]

/-- The tag, code and payload fields of a host request; none for a command that is no host request. -/
def requestForm : Instr → Option (Req × List Field)
  | .identify t => some (⟨t, 0x01⟩, [])
  | .queryFault t => some (⟨t, 0x02⟩, [])
  | .setOption t o v => some (⟨t, 0x03⟩, [f1 o, f4 v])
  | .getOption t o => some (⟨t, 0x04⟩, [f1 o])
  | .restart t => some (⟨t, 0x05⟩, [])
  | .defineSeats t n es => some (⟨t, 0x10⟩, f1 n :: es.flatMap seatEntryFields)
  | .getSeats t a n => some (⟨t, 0x11⟩, [f2 a, f1 n])
  | .getSeatMap t => some (⟨t, 0x12⟩, [])
  | .setSeparation t m => some (⟨t, 0x13⟩, [f1 m])
  | .allocate t k n o d => some (⟨t, 0x14⟩, [f1 k, f1 n, o2 o, f1 d])
  | .assignSeat t c n => some (⟨t, 0x15⟩, [f4 c, f2 n])
  | .unassign t c => some (⟨t, 0x16⟩, [f4 c])
  | .moveCandidate t c n r => some (⟨t, 0x17⟩, [f4 c, o2 n, f1 r])
  | .addCandidates t n es => some (⟨t, 0x20⟩, f1 n :: es.flatMap candidateEntryFields)
  | .setCandidate t c a b x k => some (⟨t, 0x21⟩, [f4 c, o1 a, o2 b, o1 x, o1 k])
  | .getCandidate t c => some (⟨t, 0x22⟩, [f4 c])
  | .listCandidates t k a n => some (⟨t, 0x23⟩, [o1 k, f2 a, f1 n])
  | .withdraw t c => some (⟨t, 0x24⟩, [f4 c])
  | .leaveCandidate t c => some (⟨t, 0x25⟩, [f4 c])
  | .markAbsent t c => some (⟨t, 0x26⟩, [f4 c])
  | .getClock t => some (⟨t, 0x30⟩, [])
  | .setClock t h m s => some (⟨t, 0x31⟩, [f1 h, f1 m, f1 s])
  | .defineSession t k e => some (⟨t, 0x32⟩, f1 k :: sessionEntryFields e)
  | .getSession t k => some (⟨t, 0x33⟩, [o1 k])
  | .openSeating t k => some (⟨t, 0x34⟩, [f1 k])
  | .startSession t k => some (⟨t, 0x35⟩, [f1 k])
  | .abortSession t k => some (⟨t, 0x36⟩, [f1 k])
  | .pauseSession t k => some (⟨t, 0x37⟩, [f1 k])
  | .resumeSession t k => some (⟨t, 0x38⟩, [f1 k])
  | .holdHall t => some (⟨t, 0x39⟩, [])
  | .releaseHall t => some (⟨t, 0x3A⟩, [])
  | .extendSession t k n => some (⟨t, 0x3B⟩, [f1 k, f2 n])
  | .grantTime t c n => some (⟨t, 0x3C⟩, [f4 c, f2 n])
  | .clearSession t k => some (⟨t, 0x3D⟩, [f1 k])
  | .configureLine t l d p a => some (⟨t, 0x40⟩, [f1 l, f1 d, f1 p, f1 a])
  | .getLine t l => some (⟨t, 0x41⟩, [f1 l])
  | .getDesks t l a n => some (⟨t, 0x42⟩, [f1 l, f2 a, f1 n])
  | .lineTest t l m n => some (⟨t, 0x43⟩, [f1 l, f1 m, f1 n])
  | .configureBoards t r d => some (⟨t, 0x50⟩, [f1 r, o2 d])
  | .getBoards t => some (⟨t, 0x51⟩, [])
  | .setFocus t k => some (⟨t, 0x52⟩, [o1 k])
  | .boardMessage t x d => some (⟨t, 0x53⟩, [.text x, f2 d])
  | .boardBlank t k c => some (⟨t, 0x54⟩, [f1 k, f1 c])
  | .configureStation t n k b => some (⟨t, 0x60⟩, [f1 n, f1 k, o2 b])
  | .stationOff t n => some (⟨t, 0x61⟩, [f1 n])
  | .wakeStation t n => some (⟨t, 0x62⟩, [f1 n])
  | .getStations t => some (⟨t, 0x63⟩, [])
  | .readSheet t k a n => some (⟨t, 0x64⟩, [f1 k, f2 a, f1 n])
  | .listSlots t a n => some (⟨t, 0x65⟩, [f1 a, f1 n])
  | .discardSheet t k => some (⟨t, 0x66⟩, [f1 k])
  | .assignSheet t k c => some (⟨t, 0x67⟩, [f1 k, f4 c])
  | .recordBooklet t c o f => some (⟨t, 0x70⟩, [f4 c, f1 o, f2 f])
  | .setDeclared t c n => some (⟨t, 0x71⟩, [f4 c, f1 n])
  | .openCollection t k => some (⟨t, 0x72⟩, [f1 k])
  | .collectSweep t k a n => some (⟨t, 0x73⟩, [f1 k, f2 a, f2 n])
  | .acceptException t c => some (⟨t, 0x74⟩, [f4 c])
  | .closeBundle t k => some (⟨t, 0x75⟩, [f1 k])
  | .getBundle t k n => some (⟨t, 0x76⟩, [f1 k, f2 n])
  | .getCollection t k n => some (⟨t, 0x77⟩, [f1 k, f2 n])
  | .beginKey t k q p f tm tf => some (⟨t, 0x80⟩, [f1 k, f1 q, f1 p, f1 f, o2 tm, o2 tf])
  | .keyPage t k a n es => some (⟨t, 0x81⟩, [f1 k, f2 a, f1 n] ++ es.flatMap questionEntryFields)
  | .commitKey t k => some (⟨t, 0x82⟩, [f1 k])
  | .getKey t k a n => some (⟨t, 0x83⟩, [f1 k, f2 a, f1 n])
  | .remark t k => some (⟨t, 0x84⟩, [f1 k])
  | .getResult t c => some (⟨t, 0x85⟩, [f4 c])
  | .getResponses t c a n => some (⟨t, 0x86⟩, [f4 c, f2 a, f1 n])
  | .allocateStep | .readSheetDone | .sweepStep | .remarkStep | .frameReceived _ _ | .frameGapTimeout
  | .badRequest | .transmitStart _ | .restartBegin | .coldPin | .powerReturn _ _ | .powerFail | .clockTick
  | .sessionStart _ | .writingStart _ | .cutoffEvent _ | .personalEnd _ | .sessionWarning _ | .dayEnd
  | .restOver _ | .hallHoldInput _ | .inputHold | .sync _ | .marker _ | .poll _ | .spareSlot _ | .deskReply _ _
  | .pollNoReply _ | .lineCycleEnd _ | .transmitFault _ | .loopFrame _ _ | .echoRequest _ _ | .testCycleEnd _
  | .boardFrame | .pageTurn | .messageExpiry | .stationRequest _ _ | .portGrant | .sheetHeader _ _
  | .sheetRow _ _ | .coverRecord _ _ | .readyChange _ _ | .stall _ | .warmDone _ | .idleTimeout _ | .feedWake _
  | .stationFault _ | .markingTake | .identification | .scoring | .coverTaken | .frameLengthDiscard _ => none

/-- The frame the host sends for a request (R184, R186). -/
def requestFrame (i : Instr) : Option Frame :=
  (requestForm i).map fun p => { kind := 1, tag := p.1.tag, code := p.1.code, payload := encodeFields p.2 }

/-- The length of a request's fixed fields where its list is over its limit, so that the entries are not looked at
(R189); otherwise the whole payload counts. -/
def readLength (f : Frame) : Nat :=
  match requestLayout f.code with
  | some (.list fixed _ limit) =>
      if limit < oneByteCount (f.payload.getD (fixed - 1) 0).toNat then fixed else f.payload.length
  | _ => f.payload.length

/-- A buffered frame carries this request: it passes R189, and its kind, tag, code and payload are the request's. -/
def spells (f : Frame) (i : Instr) : Bool :=
  i.wellFormed && (frameFailure f).isNone &&
  match requestFrame i with
  | none => false
  | some g =>
      decide (f.kind = g.kind ∧ f.tag = g.tag ∧ f.code = g.code) &&
        f.payload.take (readLength f) == g.payload.take (readLength f) &&
        decide (readLength f = f.payload.length → f.payload.length = g.payload.length)

/-! ## The desk poll reply (R83) -/

/-- The fields of a desk's twelve-byte reply. -/
structure DeskReply where
  address : Nat
  cardPresent : Bool
  displayOk : Bool
  mark : Bool
  buffered : Nat
  kind : Nat
  argument : Nat
  stamp : Nat
  deriving DecidableEq, Repr

/-- The 8-bit sum of some bytes. -/
def sum8 (bytes : List Byte) : Byte := bytes.foldl (· + ·) 0

/-- The reply twelve bytes spell; none when they are not twelve or their 8-bit sum is not 0 (R83, R84). -/
def parseDeskReply (bytes : List Byte) : Option DeskReply :=
  if bytes.length = 12 ∧ sum8 bytes = 0 then
    let status := bytes.getD 1 0
    some { address := (bytes.getD 0 0).toNat
           cardPresent := status.getLsbD 0
           displayOk := status.getLsbD 1
           mark := status.getLsbD 2
           buffered := (bytes.getD 2 0).toNat
           kind := (bytes.getD 3 0).toNat
           argument := fromBigEndian ((bytes.drop 4).take 4)
           stamp := fromBigEndian ((bytes.drop 8).take 3) }
  else none

/-- The echoed end of an ACK_END: FFFFFFFFh is none (R83). -/
def echoedEnd (argument : Nat) : Option Nat := if argument = 0xFFFFFFFF then none else some argument

/-- The argument and stamp lie in the ranges R83 gives for the event kind. -/
def eventInRange (kind : EventKind) (argument stamp : Nat) : Bool :=
  match kind with
  | .none_ => argument == 0 && stamp == 0
  | .signIn => argument ≤ 99999999 && stamp ≤ Config.lastSecond
  | .restOut | .restIn | .leave | .call => argument == 0 && stamp ≤ Config.lastSecond
  | .declare_ => argument ≤ 9 && stamp ≤ Config.lastSecond
  | .ackEnd => (argument ≤ Config.lastSecond || argument == 0xFFFFFFFF) && stamp == 0

/-- The event agrees with the slot the reply came in (R84). -/
def eventAgrees (slot : Awaited) (kind : EventKind) (buffered : Nat) : Bool :=
  match slot with
  | .poll _ => if buffered = 0 then decide (kind = .none_) else decide (kind ≠ .none_ ∧ kind ≠ .ackEnd)
  | .delivery _ .end_ => decide (kind = .ackEnd)
  | .delivery _ _ => decide (kind = .none_)

/-- The address a slot was sent to. -/
def awaitedAddress : Awaited → Nat
  | .poll a => a
  | .delivery a _ => a

/-- The reply and event kind of a valid reply in a slot; none for any other (R84). -/
def validReply (slot : Awaited) (bytes : List Byte) : Option (DeskReply × EventKind) :=
  match parseDeskReply bytes with
  | none => none
  | some r =>
    match chooseEventKind r.kind with
    | none => none
    | some k =>
      if r.address = awaitedAddress slot ∧ r.buffered ≤ 8 ∧ eventInRange k r.argument r.stamp ∧
          eventAgrees slot k r.buffered then some (r, k) else none

end Sys2Proof.Machine
end

