-- ==== Sys2Proof/Machine/Timing.lean ====
section
/-! DEFINITION. The arithmetic of session timing: the total pause, paused and unpaused seconds, the personal end, the
base end and the longest end (R49, R63, R65 to R67), and the rest and move credits measured with them. -/

namespace Sys2Proof.Machine

/-- P: the closed pause total, plus the running pause up to the clock (R49). -/
def totalPause (x : Session) (clock : Nat) : Nat :=
  x.closedPause + match x.pauseStart with
    | none => 0
    | some p => clock - p

/-- Hall second t is paused for the session (R63). Seconds before the horizon count as unpaused. -/
def pausedAt (x : Session) (t : Nat) : Bool :=
  !(match x.horizon with | none => false | some h => decide (t < h)) &&
  (x.pauseLog.any (fun iv => decide (iv.1 ≤ t ∧ t < iv.2)) ||
    match x.pauseStart with
    | none => false
    | some p => decide (p ≤ t))

/-- How many of the n seconds from `from_` on are not paused. -/
def countUnpaused (x : Session) (from_ : Nat) : Nat → Nat
  | 0 => 0
  | n + 1 => (if pausedAt x from_ then 0 else 1) + countUnpaused x (from_ + 1) n

/-- The unpaused seconds of the interval from instant a to instant b (R63). -/
def unpaused (x : Session) (a b : Nat) : Nat := countUnpaused x a (b - a)

/-- A value rounded up to the next multiple of the grain (R65, step 5). -/
def roundUp (grain x : Nat) : Nat := if grain = 0 then x else (x + grain - 1) / grain * grain

/-- The stretched writing Wx, its ceiling exact (R65, step 1). -/
def stretched (writing allowance : Nat) : Nat := (writing * (100 + allowance) + 99) / 100

/-- The credit of a move interval: its unpaused seconds, capped at 600 (R37, R65 step 3). -/
def moveCreditOf (x : Session) (a b : Nat) : Nat := min 600 (unpaused x a b)

/-- The open move credit of a MOVING candidate; 0 for any other (R65, step 3). -/
def openMoveCredit (x : Session) (clock : Nat) (c : Candidate) : Nat :=
  if c.state = .moving then
    match c.moveStart with
    | none => 0
    | some m => moveCreditOf x m clock
  else 0

/-- The rounded sum E0 of R65 before the clamp, with the total pause and the open move credit given. -/
def roundedEnd (x : Session) (pause openCredit : Nat) (c : Candidate) : Nat :=
  roundUp x.grain (x.start + x.reading + pause + x.extension + c.grant + stretched x.writing c.allowance
    + min c.restTaken c.restAllowance + c.moveCredit + openCredit)

/-- E as R65 gives it from the records as they stand. -/
def computedEnd (x : Session) (clock : Nat) (c : Candidate) : Nat :=
  min (roundedEnd x (totalPause x clock) (openMoveCredit x clock c) c) Config.lastSecond

/-- END_CLAMPED as R65 step 6 gives it. -/
def computedClamp (x : Session) (clock : Nat) (c : Candidate) : Bool :=
  decide (Config.lastSecond < roundedEnd x (totalPause x clock) (openMoveCredit x clock c) c)

/-- The candidate is writing, resting or moving: its time runs. -/
def timeRuns (c : Candidate) : Bool := decide (c.state = .writing ∨ c.state = .resting ∨ c.state = .moving)

/-- The candidate's personal end E: computed while its time runs, then the frozen value, else absent (R67). -/
def currentEnd (s : State) (c : Candidate) : Option Nat :=
  if timeRuns c then some (computedEnd (sessionOf s c.slot) s.timer.clock c) else c.personalEnd

/-- The candidate's END_CLAMPED flag: computed while its time runs, then as E was frozen (R65). -/
def currentClamp (s : State) (c : Candidate) : Bool :=
  if timeRuns c then computedClamp (sessionOf s c.slot) s.timer.clock c else c.endClamped

/-- The delivered end of a candidate (R88): a running pause and an open move are not counted. -/
def deliveredEnd (s : State) (c : Candidate) : Option Nat :=
  if timeRuns c then
    some (min (roundedEnd (sessionOf s c.slot) (sessionOf s c.slot).closedPause 0 c) Config.lastSecond)
  else c.personalEnd

/-- The base end of a session (R66). -/
def baseEnd (x : Session) (clock : Nat) : Nat :=
  min (roundUp x.grain (x.start + x.reading + totalPause x clock + x.extension + x.writing)) Config.lastSecond

/-- The longest end of a session (R66). -/
def longestEnd (s : State) (slot : Nat) : Nat :=
  match (candidatesOf s slot).filter timeRuns with
  | [] => baseEnd (sessionOf s slot) s.timer.clock
  | c :: cs => (c :: cs).foldl (fun m d => max m (computedEnd (sessionOf s slot) s.timer.clock d)) 0

/-- The instant S + R + P at which reading ends (R55). -/
def readingEnd (x : Session) (clock : Nat) : Nat := x.start + x.reading + totalPause x clock

/-- The late cutoff (R38, R51): the instant its event was taken, else S + R + P + L. -/
def lateCutoff (x : Session) (clock : Nat) : Nat :=
  match x.cutoffTaken with
  | some t => t
  | none => readingEnd x clock + x.late

/-- The running rest of a RESTING candidate: T_r and the unpaused seconds since the rest start (R41). -/
def runningRest (s : State) (c : Candidate) : Nat :=
  c.restTaken + match c.restStart with
    | none => 0
    | some r => unpaused (sessionOf s c.slot) r s.timer.clock

/-- Close an open rest at an instant: its unpaused seconds are added to T_r (R40). -/
def closeRest (x : Session) (at_ : Nat) (c : Candidate) : Candidate :=
  match c.restStart with
  | none => c
  | some r => { c with restTaken := c.restTaken + unpaused x r at_, restStart := none, restOverRaised := false }

/-- Close an open move at an instant: its credit is added to M_c (R37). -/
def closeMove (x : Session) (at_ : Nat) (c : Candidate) : Candidate :=
  match c.moveStart with
  | none => c
  | some m => { c with moveCredit := c.moveCredit + moveCreditOf x m at_, moveStart := none }

/-- Close an open rest and an open move at an instant (R31). -/
def closeAway (x : Session) (at_ : Nat) (c : Candidate) : Candidate := closeMove x at_ (closeRest x at_ c)

/-- Freeze E and END_CLAMPED at the value R65 gives now (R67). -/
def freezeEnd (x : Session) (clock : Nat) (c : Candidate) : Candidate :=
  { c with personalEnd := some (computedEnd x clock c), endClamped := computedClamp x clock c }

/-- A stamp lies before a recorded instant; one marked as recorded under an earlier clock lies before every stamp
(R33). -/
def stampBefore (stamp : Nat) (i : Instant) : Bool := !i.earlier && decide (stamp < i.at_)

/-- A stamp lies before an optional recorded instant. -/
def stampBeforeOpt (stamp : Nat) : Option Instant → Bool
  | none => false
  | some i => stampBefore stamp i

end Sys2Proof.Machine
end

