-- ==== Sys2Proof/Machine/Flags.lean ====
section
/-! DEFINITION. The conditions and status values computed from the records, and the two frames every command's meaning
stands in: `request` hands a host request over to its owner (R190), `event` takes an event while main power is
present. -/

namespace Sys2Proof.Machine

/-! ## Status values -/

/-- The hall hold is active while either part is set (R62). -/
def hallHoldActive (s : State) : Bool := s.timer.inputHold || s.timer.hostHold

/-- No pause cause is in the set. -/
def noCauses (c : Causes) : Bool := !c.host && !c.hall && !c.power

/-- The session is WRITING, READING or PAUSED: it runs. -/
def sessionRuns (x : Session) : Bool := decide (x.state = .reading ∨ x.state = .writing ∨ x.state = .paused)

/-- The candidate is in one of the closed states of R29. -/
def closedState (st : CandState) : Bool :=
  decide (st = .finished ∨ st = .left ∨ st = .absent ∨ st = .collected)

/-- The session state a PAUSED session is judged as: its resume target (R37). -/
def judgedState (x : Session) : SessState :=
  if x.state = .paused then
    match x.target with
    | some .reading => .reading
    | some .writing => .writing
    | none => .paused
  else x.state

/-- A desk is in contact when it is REACHABLE and its line RUNNING (R44). -/
def inContact (s : State) (line address : Nat) : Bool :=
  (deskOf s line address).reachable && decide ((lineOf s line).state = .running)

/-- What the retained tables hold (R195, R198): every state a power return keeps, other than the hall clock with its
copy and the fault record (log entry 9). -/
structure Retained where
  seats : Table Seat
  mode : SepMode
  cursors : Table (Nat × Nat)
  roster : List Candidate
  sessions : Table Session
  hostHold : Bool
  lines : List (Nat × Bool × Nat × Nat × Bool)
  desks : List (Nat × Desk)
  boards : Nat × Nat × Option Nat × List Nat
  stations : List (Nat × StationKind × Nat × Nat × Option LastEnd)
  lastGranted : Option Nat
  slots : List (Nat × Slot)
  queue : List Nat
  covers : List CoverEntry
  bundles : Table (Option Bundle)
  nextBundle : Table Nat
  openBundle : Table (Option Nat)
  keys : Table Key
  options : Options
  deriving DecidableEq

/-- The contents of the retained tables. The clock's CLOCK_UNSET flag is none of them, the model's choice (R195, log entry
9). -/
def retainedOf (s : State) : Retained :=
  { seats := s.seatMap.seats, mode := s.seatMap.mode, cursors := s.seatMap.cursors, roster := s.roster
    sessions := s.timer.sessions, hostHold := s.timer.hostHold
    lines := s.desk.lines.map fun p => (p.1, decide (p.2.state ≠ .off), p.2.desks, p.2.spare, p.2.autoKeep)
    desks := s.desk.desks.map fun p => (p.1, { p.2 with reachable := false, missedPolls := 0 })
    boards := (s.boards.rows, s.boards.dwell, s.boards.focus, s.boards.blankSet)
    stations := s.reader.stations.map fun p =>
      (p.1, p.2.kind, p.2.standby, p.2.checkFailures, p.2.lastEnd)
    lastGranted := s.reader.lastGranted
    slots := s.store.slots.map fun p => (p.1, { p.2 with exportMark := false })
    queue := s.store.queue, covers := s.coll.covers, bundles := s.coll.bundles
    nextBundle := s.coll.nextBundle, openBundle := s.coll.openBundle, keys := s.marking.keys
    options := s.link.options }

/-- The retention status becomes VALID with the first change of a retained table after a cold reset (R195). -/
def noteRetained (before after : State) : State :=
  if after.link.retention = .initial ∧ retainedOf before ≠ retainedOf after then
    { after with link := { after.link with retention := .valid } }
  else after

/-! ## Hand-over (R190, R200) -/

/-- The next frame may be handed over: no short reply waits unsent, no READ_SHEET awaits its reply, and no RESTART
has been taken. -/
def handOverOpen (s : State) : Bool :=
  s.link.replies.all (·.long) && s.store.readJob.isNone && decide (s.link.restart = .none_)

/-- The request may be taken now: power is present, hand-over is open, and the oldest frame in the receive buffer carries
it. A long operation that runs does not hold it back (R190). With the buffer empty the request stands for its frame's
reception and hand-over in one (log entry 5). -/
def canTake (i : Instr) (s : State) : Bool :=
  s.powered && handOverOpen s &&
  match s.link.buffer with
  | [] => true
  | f :: _ => spells f i

/-- The frame taken leaves the receive buffer. -/
def popFrame (s : State) : State := { s with link := { s.link with buffer := s.link.buffer.drop 1 } }

/-- A host request is handed over to its owner, whose judgement and work is `body`. While it cannot be taken, nothing
happens: its frame, if it has one in the buffer, waits there (R190). -/
def request (i : Instr) (s : State) (body : State → State) : Host.Outcome State Fault Refusal :=
  .next (if canTake i s then noteRetained (popFrame s) (body (popFrame s)) else s)

/-- An event comes about while main power is present; without power nothing happens. -/
def event (s : State) (body : State → State) : Host.Outcome State Fault Refusal :=
  .next (if s.powered then noteRetained s (body s) else s)

/-- An event that comes about only under its condition; otherwise nothing happens (log entry 6). -/
def eventWhen (s : State) (cond : Bool) (body : State → State) : Host.Outcome State Fault Refusal :=
  event s fun t => if cond then body t else t

end Sys2Proof.Machine
end

