-- ==== Sys2Proof/Machine/Changes.lean ====
section
/-! DEFINITION. The changes of candidates, seats and sessions that several commands share: entering a state with its
notice (R29, R52), what a seat becomes (R23), pauses (R59, R60), the writing start (R55), the cutoff (R44, R56), ends
reached (R70), warnings (R71), session end (R57), day end (R72), the hall hold (R62) and closing (R153). -/

namespace Sys2Proof.Machine

/-! ## Candidates and their seats -/

/-- A candidate enters a state: the record is written with its state since, and CANDIDATE_STATE is raised (R29).
`c` still shows the previous state and carries every other field as it stands after the change. -/
def enterState (c : Candidate) (new : CandState) (cause : CandCause) (s : State) : State :=
  raise (.candidateState c.number c.slot c.seat c.state new cause s.timer.clock)
    (putCandidate { c with state := new, stateSince := { at_ := s.timer.clock } } s)

/-- A seat changes state and keeps naming its candidate (R2, R23). -/
def setSeatState (n : Nat) (st : SeatState) (s : State) : State := putSeat n { seatOf s n with state := st } s

/-- The seat a candidate names, if any, changes state. -/
def setStateOfSeat (c : Candidate) (st : SeatState) (s : State) : State :=
  match c.seat with
  | none => s
  | some n => setSeatState n st s

/-- A seat is freed: it names no candidate, and SEAT is made owed at its desk (R23). -/
def freeSeat (n : Nat) (s : State) : State :=
  let x := seatOf s n
  oweSeatAtSeat n (putSeat n
    { x with state := if x.outOfService then .outOfService else .free, candidate := none } s)

/-- The seat a candidate names, if any, is freed. -/
def freeSeatOf (c : Candidate) (s : State) : State :=
  match c.seat with
  | none => s
  | some n => freeSeat n s

/-- A candidate comes to name a seat, and the seat it (R14, R18, R21): both fields, seat since, SEAT owed.
The candidate's state is the caller's. -/
def nameSeat (c : Candidate) (n : Nat) (st : SeatState) (s : State) : State :=
  oweSeatAtSeat n (putSeat n { seatOf s n with state := st, candidate := some c.number } s)

/-- The candidate record with a seat named now (R25). -/
def seated (c : Candidate) (n clock : Nat) : Candidate :=
  { c with seat := some n, seatSince := some { at_ := clock } }

/-- The candidate record without a seat. -/
def unseated (c : Candidate) : Candidate := { c with seat := none, seatSince := none }

/-- A candidate becomes ABSENT: ABSENCE_PENDING is cleared and its seat freed (R44, R45, R57, R58, R72). -/
def becomeAbsent (c : Candidate) (cause : CandCause) (s : State) : State :=
  enterState { unseated c with absencePending := false } .absent cause (freeSeatOf c s)

/-- A candidate becomes FINISHED: E is frozen at its present value, an open rest or move is closed, and its seat
becomes AWAITING_COLLECTION (R70, R72). -/
def finishCandidate (c : Candidate) (outAtEnd : Bool) (cause : CandCause) (s : State) : State :=
  let x := sessionOf s c.slot
  let d := closeAway x s.timer.clock (freezeEnd x s.timer.clock c)
  enterState { d with outAtEnd := d.outAtEnd || outAtEnd } .finished cause (setStateOfSeat c .awaitingCollection s)

/-- The record of a candidate that leaves at the clock: an open rest or move is closed, and E is then computed and
frozen (R31, R42, R58). -/
def departed (s : State) (c : Candidate) : Candidate :=
  let x := sessionOf s c.slot
  freezeEnd x s.timer.clock (closeAway x s.timer.clock c)

/-- A writing, resting or moving candidate becomes LEFT (R31, R42, R58): its seat becomes AWAITING_COLLECTION, and END
is made owed where E changed (R67). `d` is its record, departed. -/
def leaveNow (c d : Candidate) (cause : CandCause) (s : State) : State :=
  let t := setStateOfSeat c .awaitingCollection s
  let t := if currentEnd s c = d.personalEnd then t else oweEndAt c t
  enterState { d with state := c.state } .left cause t

/-! ## Sessions -/

/-- The pause causes (R49). -/
inductive PauseCause where
  | host | hall | power
  deriving DecidableEq, Repr

/-- A cause is in a set. -/
def hasCause (k : PauseCause) (c : Causes) : Bool :=
  match k with
  | .host => c.host
  | .hall => c.hall
  | .power => c.power

/-- A set with a cause added. -/
def withCause (k : PauseCause) (c : Causes) : Causes :=
  match k with
  | .host => { c with host := true }
  | .hall => { c with hall := true }
  | .power => { c with power := true }

/-- A session enters a state, or changes its cause set while PAUSED: SESSION_STATE is raised (R52).
`y` is its record as it stands after the change, its state apart. -/
def enterSession (slot : Nat) (y : Session) (new : SessState) (cause : SessCause) (s : State) : State :=
  raise (.sessionState slot y.paper (sessionOf s slot).state new y.causes cause s.timer.clock)
    (putSession slot { y with state := new } s)

/-- The running pause is closed at an instant: its length joins the closed pause total and the interval the pause log,
whose oldest entry gives way to a 65th and sets the horizon (R60, R63). -/
def closePause (x : Session) (at_ : Nat) : Session :=
  match x.pauseStart with
  | none => x
  | some p =>
    let y := { x with closedPause := x.closedPause + (at_ - p), pauseStart := none }
    if at_ - p = 0 then y
    else
      match x.pauseLog with
      | [] => { y with pauseLog := [(p, at_)] }
      | oldest :: rest =>
        if x.pauseLog.length < 64 then { y with pauseLog := x.pauseLog ++ [(p, at_)] }
        else { y with pauseLog := rest ++ [(p, at_)], horizon := some oldest.2 }

/-- A pause cause is added to a session (R59): a READING or WRITING session is paused from `from_`; a PAUSED one takes
the cause into its set; HOST may join the set of a SEATING one. -/
def addCause (slot : Nat) (k : PauseCause) (from_ : Nat) (cause : SessCause) (s : State) : State :=
  let x := sessionOf s slot
  let y := { x with causes := withCause k x.causes }
  match x.state with
  | .reading => enterSession slot { y with pauseStart := some from_, target := some .reading } .paused cause s
  | .writing => enterSession slot { y with pauseStart := some from_, target := some .writing } .paused cause s
  | .paused => if hasCause k x.causes then s else enterSession slot y .paused cause s
  | .seating => if k = .host then putSession slot y s else s
  | _ => s

/-- Each candidate of a session now in the roster, by number, in roster order. -/
def numbersOf (s : State) (slot : Nat) : List Nat := (candidatesOf s slot).map (·.number)

/-- Apply a change to each candidate of a session in roster order, its record read as the earlier changes left it. -/
def eachCandidate (slot : Nat) (f : Candidate → State → State) (s : State) : State :=
  forEach (numbersOf s slot) (fun n t =>
    match candidateOf t n with
    | none => t
    | some c => f c t) s

/-- A candidate's personal end is due: its session is WRITING and the clock is at or past its E (R70). -/
def endDue (s : State) (c : Candidate) : Bool :=
  timeRuns c && decide ((sessionOf s c.slot).state = .writing) &&
  decide (computedEnd (sessionOf s c.slot) s.timer.clock c ≤ s.timer.clock)

/-- A candidate's personal end is reached if it is due; OUT_AT_END when it was RESTING or MOVING (R70). -/
def reachEnd (c : Candidate) (s : State) : State :=
  if endDue s c then finishCandidate c (decide (c.state ≠ .writing)) .personalEnd s else s

/-- The personal end of the candidate with a number is reached if it is due. -/
def reachEndOf (number : Nat) (s : State) : State :=
  match candidateOf s number with
  | none => s
  | some c => reachEnd c s

/-- A warning offset is due: nonzero, and the clock at or past base end less the offset (R71). -/
def warningDue (x : Session) (clock offset : Nat) : Bool :=
  decide (offset ≠ 0) && decide (baseEnd x clock ≤ clock + offset)

/-- Warning 1 of a session is given if it is due and not yet given (R71). Past the base end its time remaining is 0, the
model's choice (log entry 65). -/
def giveWarning1 (slot : Nat) (s : State) : State :=
  let x := sessionOf s slot
  let clock := s.timer.clock
  if x.state = .writing ∧ x.warn1Raised = false ∧ warningDue x clock x.warn1 then
    raise (.sessionWarning slot x.paper 1 (baseEnd x clock) (baseEnd x clock - clock))
      (putSession slot { x with warn1Raised := true } s)
  else s

/-- Warning 2 of a session is given if it is due and not yet given (R71). Past the base end its time remaining is 0, the
model's choice (log entry 65). -/
def giveWarning2 (slot : Nat) (s : State) : State :=
  let x := sessionOf s slot
  let clock := s.timer.clock
  if x.state = .writing ∧ x.warn2Raised = false ∧ warningDue x clock x.warn2 then
    raise (.sessionWarning slot x.paper 2 (baseEnd x clock) (baseEnd x clock - clock))
      (putSession slot { x with warn2Raised := true } s)
  else s

/-- The warnings due are given, warning 1 first (R71). -/
def giveWarnings (slot : Nat) (s : State) : State := giveWarning2 slot (giveWarning1 slot s)

/-- All the conditions of R57 hold. -/
def sessionEndDue (s : State) (slot : Nat) : Bool :=
  let x := sessionOf s slot
  decide (x.state = .writing) && decide (baseEnd x s.timer.clock ≤ s.timer.clock) && x.cutoffTaken.isSome &&
  (candidatesOf s slot).all fun c => !timeRuns c && !c.absencePending

/-- The session end is taken if its conditions hold (R57): ASSIGNED candidates become ABSENT, the session ENDED. -/
def endSession (slot : Nat) (s : State) : State :=
  if sessionEndDue s slot then
    let t := eachCandidate slot (fun c u => if c.state = .assigned then becomeAbsent c .cutoff u else u) s
    enterSession slot (sessionOf t slot) .ended .end_ t
  else s

/-- The session end of a candidate's session is taken if its conditions hold. -/
def endSessionOf (number : Nat) (s : State) : State :=
  match candidateOf s number with
  | none => s
  | some c => endSession c.slot s

/-- The late cutoff event is due (R56). -/
def cutoffDue (s : State) (slot : Nat) : Bool :=
  let x := sessionOf s slot
  decide (x.state = .writing) && x.cutoffTaken.isNone &&
  decide (readingEnd x s.timer.clock + x.late ≤ s.timer.clock)

/-- The Roster's judgement of an ASSIGNED candidate at the cutoff (R44). -/
def judgeAtCutoff (c : Candidate) (s : State) : State :=
  if c.state = .assigned then
    match c.seat with
    | some n =>
      if inContact s (seatOf s n).line (seatOf s n).address then becomeAbsent c .cutoff s
      else putCandidate { c with absencePending := true } s
    | none => putCandidate { c with absencePending := true } s
  else s

/-- The late cutoff event is taken if it is due (R56, R44). -/
def takeCutoff (slot : Nat) (s : State) : State :=
  if cutoffDue s slot then
    eachCandidate slot judgeAtCutoff
      (putSession slot { sessionOf s slot with cutoffTaken := some s.timer.clock } s)
  else s

/-- The writing start in a session that has been made WRITING, or stays PAUSED with target WRITING (R55): Ws is set, the
PRESENT candidates become WRITING, and what falls due with it is taken (R56, R71, R57). That the cutoff comes before the
warnings, and that a session all of whose end's conditions then hold is ended by END here, in second 86,399 too, are the
model's choices (log entries 66 and 67). -/
def beginWriting (slot : Nat) (s : State) : State :=
  let t := putSession slot { sessionOf s slot with writingStart := some s.timer.clock } s
  let t := eachCandidate slot (fun c u =>
    if c.state = .present then oweEndAt c (enterState c .writing .writingStart u) else u) t
  endSession slot (giveWarnings slot (takeCutoff slot t))

/-- The pause of a PAUSED session ends at the clock (R60), and what R70, R71 and R57 then find due is taken. -/
def endPause (slot : Nat) (s : State) : State :=
  let x := closePause (sessionOf s slot) s.timer.clock
  let new := match x.target with
    | some .reading => SessState.reading
    | _ => SessState.writing
  let t := enterSession slot { x with causes := {}, target := none } new .resume s
  let t := eachCandidate slot (fun c u => if timeRuns c then oweEndAt c u else u) t
  let t := eachCandidate slot reachEnd t
  endSession slot (giveWarnings slot t)

/-- Causes are taken from a session's set; when that empties the set of a PAUSED session, its pause ends (R60 to R62). -/
def removeCauses (slot : Nat) (keep : Causes → Causes) (cause : SessCause) (s : State) : State :=
  let x := sessionOf s slot
  let y := { x with causes := keep x.causes }
  if y.causes = x.causes then s
  else if x.state = .paused then
    if noCauses y.causes then endPause slot s else enterSession slot y .paused cause s
  else putSession slot y s

/-- The session slots in order. -/
def sessionSlots : List Nat := List.range Config.sessionCount

/-- The two parts of the hall-hold state take new values (R62): HALL_HOLD is raised for a change, HALL joins the running
sessions when the hold becomes active and leaves every cause set when it becomes clear. -/
def setHold (input host : Bool) (s : State) : State :=
  if s.timer.inputHold = input ∧ s.timer.hostHold = host then s
  else
    let was := hallHoldActive s
    let t := { s with timer := { s.timer with inputHold := input, hostHold := host } }
    let t := raise (.hallHold input host (input || host) s.timer.clock) t
    if (input || host) && !was then
      forEach sessionSlots (fun k u =>
        if sessionRuns (sessionOf u k) then addCause k .hall u.timer.clock .hall u else u) t
    else if was && !(input || host) then
      forEach sessionSlots (fun k u => removeCauses k (fun c => { c with hall := false }) .hall u) t
    else t

/-- What the day end makes of one candidate (R72). -/
def dayEndCandidate (c : Candidate) (s : State) : State :=
  if timeRuns c then finishCandidate c true .dayEnd s
  else if c.state = .present then
    enterState { c with outAtEnd := true } .left .dayEnd (setStateOfSeat c .awaitingCollection s)
  else if c.state = .assigned then becomeAbsent c .dayEnd s
  else s

/-- The day end of one session (R72), if it runs. -/
def dayEndSession (slot : Nat) (s : State) : State :=
  if sessionRuns (sessionOf s slot) then
    let x := closePause (sessionOf s slot) s.timer.clock
    let t := putSession slot { x with causes := {}, target := none } s
    let t := eachCandidate slot dayEndCandidate t
    enterSession slot (sessionOf t slot) .ended .dayEnd t
  else s

/-- The start of a SEATING session (R54): HALL joins its causes while the hall hold is active; it goes to READING or
WRITING, or to PAUSED with a cause; with R = 0 the writing start is taken; and in a second 86,399 whose day end has been
taken, so is the day end of this session (R72). -/
def startNow (slot : Nat) (cause : SessCause) (s : State) : State :=
  let x := sessionOf s slot
  let y := { x with
    causes := if hallHoldActive s then { x.causes with hall := true } else x.causes
    startDue := false }
  let t :=
    if noCauses y.causes then enterSession slot y (if x.reading = 0 then .writing else .reading) cause s
    else enterSession slot { y with
      pauseStart := some s.timer.clock
      target := some (if x.reading = 0 then .writing else .reading) } .paused cause s
  let t := if x.reading = 0 then beginWriting slot t else t
  if s.timer.clock = Config.lastSecond ∧ s.timer.dayEndTaken then dayEndSession slot t else t

/-- The start instant finds a DEFINED session: start missed is set and START_MISSED raised (R54). -/
def missStart (slot : Nat) (s : State) : State :=
  let x := sessionOf s slot
  raise (.startMissed slot x.paper x.start) (putSession slot { x with startMissed := true, startDue := false } s)

/-- Every candidate's last effective instant is cleared, and its state since and seat since are marked as recorded under
an earlier clock (R33, R48, R73). -/
def markInstants (s : State) : State :=
  { s with roster := s.roster.map fun c =>
    { c with
      lastEffective := none
      stateSince := { c.stateSince with earlier := true }
      seatSince := c.seatSince.map fun i => { i with earlier := true } } }

/-- The day wrap: every pause log is emptied, its horizon cleared, and the candidates' instants are marked (R73). -/
def dayWrap (s : State) : State :=
  markInstants { s with timer := { s.timer with
    sessions := s.timer.sessions.map fun p => (p.1, { p.2 with pauseLog := [], horizon := none }) } }

/-! ## Collection -/

/-- A session's open bundle, if any, is closed with a cause (R149 to R153). -/
def closeOpenBundle (slot : Nat) (cause : CloseCause) (s : State) : State :=
  match openBundleOf s slot with
  | none => s
  | some h =>
    match bundleOf s h with
    | none => putOpenBundle slot none s
    | some b =>
      putOpenBundle slot none
        (putBundle h (some { b with isOpen := false, closed := some s.timer.clock, closeCause := some cause }) s)

/-- Every candidate of the session is COLLECTED, ABSENT or WITHDRAWN (R153). -/
def allSettled (s : State) (slot : Nat) : Bool :=
  (candidatesOf s slot).all fun c => decide (c.state = .collected ∨ c.state = .absent ∨ c.state = .withdrawn)

/-- The closing test of R153: a COLLECTING session whose candidates are all settled becomes CLOSED. -/
def closeIfSettled (slot : Nat) (s : State) : State :=
  if (sessionOf s slot).state = .collecting ∧ allSettled s slot then
    closeOpenBundle slot .sessionClosed (enterSession slot (sessionOf s slot) .closed .collection s)
  else s

end Sys2Proof.Machine
end

