-- ==== Sys2Proof/Machine/DeskEvents.lean ====
section
/-! DEFINITION. The judgement of desk events: the Roster's of sign-in, rest, leave and call (R33 to R43) and of a
desk's drain (R45), and the Collection Unit's of a declaration (R139). The Desk Line Controller hands an event on with
its line and address, and the Seat Map finds the seat and the candidate it names (R7). -/

namespace Sys2Proof.Machine

/-- A desk event as it is handed on: where it came from, and what it carries. -/
structure DeskEvent where
  seat : Nat
  line : Nat
  address : Nat
  kind : EventKind
  argument : Nat
  stamp : Nat
  deriving DecidableEq, Repr

/-- The effective instant of a stamp for a candidate (R33): raised to the last effective instant, then lowered to the
clock. -/
def effectiveInstant (clock stamp : Nat) (last : Option Nat) : Nat :=
  min (match last with | none => stamp | some t => max stamp t) clock

/-- The effective instant of an event judged for a candidate. -/
def effectiveFor (s : State) (c : Candidate) (e : DeskEvent) : Nat :=
  effectiveInstant s.timer.clock e.stamp c.lastEffective

/-- The event is answered at its desk with a display code (R35). -/
def answer (e : DeskEvent) (code : DisplayCode) (s : State) : State := oweDisplay e.line e.address code s

/-- A refusal for a candidate: only its last effective instant changes, and the code is shown (R33, R35). -/
def refuseEvent (e : DeskEvent) (c : Candidate) (code : DisplayCode) (s : State) : State :=
  answer e code (putCandidate { c with lastEffective := some (effectiveFor s c e) } s)

/-- LATE_EVENT is raised (R34): the event is not applied and nothing else changes. -/
def reportLate (e : DeskEvent) (c : Candidate) (reason : LateReason) (s : State) : State :=
  raise (.lateEvent e.seat (some c.number) e.kind e.stamp c.state c.stateSince.at_ reason) s

/-- SIGN_IN_REFUSED is raised for a refused sign-in (R36). -/
def reportRefusal (e : DeskEvent) (code : DisplayCode) (effective : Nat) (held : Option Nat) (s : State) : State :=
  raise (.signInRefused code e.seat e.argument effective held) s

/-- A sign-in of a card's candidate is refused (R36). -/
def refuseSignIn (e : DeskEvent) (c : Candidate) (code : DisplayCode) (held : Option Nat) (s : State) : State :=
  reportRefusal e code (effectiveFor s c e) held (refuseEvent e c code s)

/-- REST_OVER is raised for a RESTING candidate whose running rest has reached B, once per rest interval (R41). -/
def checkRestOver (c : Candidate) (s : State) : State :=
  if c.state = .resting ∧ c.restOverRaised = false ∧ c.restAllowance ≤ runningRest s c then
    raise (.restOver c.number c.seat c.restAllowance (runningRest s c)) (putCandidate { c with restOverRaised := true } s)
  else s

/-- The same for the candidate with a number. -/
def checkRestOverOf (number : Nat) (s : State) : State :=
  match candidateOf s number with
  | none => s
  | some c => checkRestOver c s

/-- Where a recomputation has lowered a candidate's E, an end it now lies behind is reached at once, and the session end
that may follow (R57, R67, R70). -/
def reachLowered (before : Option Nat) (number : Nat) (s : State) : State :=
  match candidateOf s number, before with
  | some c, some e => if (currentEnd s c).any (fun f => decide (f < e)) then endSession c.slot (reachEnd c s) else s
  | _, _ => s

/-! ## Sign-in (R36, R37) -/

/-- A sign-in before writing: the candidate is PRESENT (R37). -/
def signInPresent (e : DeskEvent) (c : Candidate) (s : State) : State :=
  let eff := effectiveFor s c e
  answer e .accepted (enterState { c with arrival := some eff, lastEffective := some eff } .present .desk
    (setSeatState e.seat .inUse s))

/-- A late sign-in: the candidate is WRITING, its E is computed and END made owed (R37). -/
def signInLate (e : DeskEvent) (c : Candidate) (s : State) : State :=
  let eff := effectiveFor s c e
  answer e .accepted (oweEnd e.line e.address (enterState
    { c with arrival := some eff, lastEffective := some eff, absencePending := false } .writing .desk
    (setSeatState e.seat .inUse s)))

/-- A sign-in at the new seat: the move is closed at the effective instant (R37). -/
def signInMoved (e : DeskEvent) (c : Candidate) (s : State) : State :=
  let eff := effectiveFor s c e
  let d := closeMove (sessionOf s c.slot) eff { c with lastEffective := some eff }
  reachLowered (currentEnd s c) c.number
    (answer e .accepted (oweEnd e.line e.address (enterState d .writing .desk s)))

/-- A sign-in by the candidate that the seat names, judged by its state (R37). -/
def signInAtSeat (e : DeskEvent) (c : Candidate) (s : State) : State :=
  let x := sessionOf s c.slot
  match c.state with
  | .assigned =>
    match judgedState x with
    | .seating | .reading => signInPresent e c s
    | .writing =>
      if effectiveFor s c e < lateCutoff x s.timer.clock then signInLate e c s
      else refuseSignIn e c .refusedLate none s
    | _ => refuseSignIn e c .notOpen none s
  | .moving => signInMoved e c s
  | _ => refuseSignIn e c .alreadyIn none s

/-- SIGN_IN, judged by the tests of R36 in their order. -/
def judgeSignIn (e : DeskEvent) (s : State) : State :=
  match (if e.argument = 0 then none else candidateOf s e.argument) with
  | none =>
    reportRefusal e .unknown (effectiveInstant s.timer.clock e.stamp none) none (answer e .unknown s)
  | some c =>
    if c.state = .withdrawn then refuseSignIn e c .withdrawn none s
    else if closedState c.state ∧ stampBefore e.stamp c.stateSince then reportLate e c .afterState s
    else if c.state = .absent then refuseSignIn e c .refusedLate none s
    else if closedState c.state then refuseSignIn e c .finished none s
    else if (c.state = .present ∨ c.state = .writing ∨ c.state = .resting) ∧ c.seat.isSome ∧ c.seat ≠ some e.seat then
      refuseSignIn e c .duplicate c.seat s
    else if c.seat ≠ some e.seat then refuseSignIn e c .wrongSeat none s
    else signInAtSeat e c s

/-! ## Rest and leave (R39, R40, R42) -/

/-- REST_OUT (R39), with the REST_OVER a running rest at or past B raises at once (R41). -/
def judgeRestOut (e : DeskEvent) (c : Candidate) (s : State) : State :=
  let x := sessionOf s c.slot
  if c.state = .writing ∧ (x.state = .writing ∨ x.state = .paused) then
    let eff := effectiveFor s c e
    checkRestOverOf c.number (answer e .accepted (enterState
      { c with restStart := some eff, restOverRaised := false, lastEffective := some eff } .resting .desk s))
  else refuseEvent e c .notWriting s

/-- REST_IN (R40). -/
def judgeRestIn (e : DeskEvent) (c : Candidate) (s : State) : State :=
  if c.state = .resting then
    let eff := effectiveFor s c e
    let d := closeRest (sessionOf s c.slot) eff { c with lastEffective := some eff }
    let t := enterState d .writing .desk s
    let t := if currentEnd s c = currentEnd s { d with state := .writing } then t else oweEnd e.line e.address t
    answer e .accepted t
  else refuseEvent e c .notResting s

/-- What R42 answers a LEAVE of a WRITING candidate: a refusal, or none when it is allowed. -/
def leaveRefusal (s : State) (c : Candidate) (effective : Nat) : Option DisplayCode :=
  let x := sessionOf s c.slot
  if x.state = .paused then some .refusedPaused
  else if effective < x.writingStart.getD 0 + x.bar then some .refusedEarly
  else if (currentEnd s c).getD 0 ≤ effective + x.lock then some .refusedLocked
  else none

/-- LEAVE (R42), with the session end it may bring about (R57). -/
def judgeLeave (e : DeskEvent) (c : Candidate) (s : State) : State :=
  if c.state = .writing then
    let eff := effectiveFor s c e
    match leaveRefusal s c eff with
    | some code => refuseEvent e c code s
    | none =>
      let d := freezeEnd (sessionOf s c.slot) s.timer.clock { c with lastEffective := some eff }
      endSession c.slot (answer e .accepted (leaveNow c d .desk s))
  else refuseEvent e c .notWriting s

/-- A REST_OUT, REST_IN or LEAVE: the cases of R34 first, then the judgement of its kind. -/
def judgeAway (judge : DeskEvent → Candidate → State → State) (e : DeskEvent) (named : Option Candidate)
    (s : State) : State :=
  match named with
  | none => answer e .notSeated s
  | some c =>
    if stampBeforeOpt e.stamp c.seatSince then reportLate e c .seatChanged s
    else if closedState c.state ∧ stampBefore e.stamp c.stateSince then reportLate e c .afterState s
    else if c.state = .finished ∨ c.state = .left ∨ c.state = .collected then refuseEvent e c .finished s
    else judge e c s

/-! ## Calls and declarations (R43, R139) -/

/-- CALL (R43): it changes no record and is answered by no display code. -/
def judgeCall (e : DeskEvent) (named : Option Candidate) (s : State) : State :=
  raise (.deskCall e.seat e.line e.address (named.map (·.number)) (named.map (·.state))
    (effectiveInstant s.timer.clock e.stamp (named.bind (·.lastEffective)))) s

/-- DECLARE, judged by the tests of R139 in their order. -/
def judgeDeclare (e : DeskEvent) (named : Option Candidate) (s : State) : State :=
  match named with
  | none => answer e .notSeated s
  | some c =>
    if stampBeforeOpt e.stamp c.seatSince then reportLate e c .seatChanged s
    else if ¬(c.state = .finished ∨ c.state = .left) ∨ stampBefore e.stamp c.stateSince then
      refuseEvent e c .notFinished s
    else if e.argument = 0 then refuseEvent e c .badCount s
    else
      answer e .accepted (putCandidate
        { c with declared := some e.argument, lastEffective := some (effectiveFor s c e) } s)

/-- The candidate a seat names. -/
def namedAt (s : State) (seat : Nat) : Option Candidate := (seatOf s seat).candidate.bind (candidateOf s)

/-- An event is judged by its owner against the candidate its seat names now (R7, R33). -/
def judgeEvent (e : DeskEvent) (s : State) : State :=
  match e.kind with
  | .none_ | .ackEnd => s
  | .signIn => judgeSignIn e s
  | .restOut => judgeAway judgeRestOut e (namedAt s e.seat) s
  | .restIn => judgeAway judgeRestIn e (namedAt s e.seat) s
  | .leave => judgeAway judgeLeave e (namedAt s e.seat) s
  | .call => judgeCall e (namedAt s e.seat) s
  | .declare_ => judgeDeclare e (namedAt s e.seat) s

/-- The Seat Map turns a desk into a seat; an event from a desk that no defined seat carries is discarded (R7). -/
def handOn (line address : Nat) (kind : EventKind) (argument stamp : Nat) (s : State) : State :=
  match seatAt s line address with
  | none => s
  | some n =>
    judgeEvent { seat := n, line := line, address := address, kind := kind, argument := argument, stamp := stamp } s

/-- A drain: the desk's buffer is empty, and an ABSENCE_PENDING candidate of its seat is settled as ABSENT, with the
session end that may follow (R45, R57). -/
def reportDrain (line address : Nat) (s : State) : State :=
  match seatAt s line address with
  | none => s
  | some n =>
    match namedAt s n with
    | none => s
    | some c =>
      if c.state = .assigned ∧ c.absencePending = true then endSession c.slot (becomeAbsent c .cutoff s) else s

end Sys2Proof.Machine
end

