-- ==== Sys2Proof/Machine/SeatMap.lean ====
section
/-! DEFINITION. The Seat Map: the hall's geometry, eligibility and walks (R9 to R12), and the requests that define,
read, allocate, assign and move seats (R3 to R8, R13 to R22). -/

namespace Sys2Proof.Machine

/-! ## Geometry, eligibility and walks -/

/-- The absolute difference of two grid coordinates. -/
def distance (a b : Nat) : Nat := (a - b) + (b - a)

/-- Two defined seats are adjacent under a separation mode (R9). -/
def adjacent (mode : SepMode) (a b : Seat) : Bool :=
  let dr := distance a.row b.row
  let dc := distance a.column b.column
  match mode with
  | .noSep => false
  | .orthogonal => decide ((dr = 0 ∧ dc = 1) ∨ (dr = 1 ∧ dc = 0))
  | .full => decide (dr ≤ 1 ∧ dc ≤ 1 ∧ ¬(dr = 0 ∧ dc = 0))

/-- A seat names a candidate of a session. -/
def namesSession (s : State) (slot : Nat) (x : Seat) : Bool :=
  match x.candidate with
  | none => false
  | some n =>
    match candidateOf s n with
    | none => false
    | some c => c.slot == slot

/-- The seats adjacent to seat n that name a candidate of a session, one seat left out (R10, test 7). -/
def occupiedNeighbours (s : State) (slot : Nat) (leftOut : Option Nat) (n : Nat) : List Nat :=
  ((definedSeats s).filter fun p =>
    decide (some p.1 ≠ leftOut) && adjacent s.seatMap.mode (seatOf s n) p.2 && namesSession s slot p.2).map (·.1)

/-- The first of tests 2 to 7 of R10 that a defined seat fails for a candidate of a session, or none. -/
def seatFailure (s : State) (slot : Nat) (needsAccess : Bool) (leftOut : Option Nat) (n : Nat) : Option Detail :=
  let x := seatOf s n
  if x.outOfService then some .seatOutOfService
  else if x.state ≠ .free then some .seatTaken
  else if x.reserved then some .seatReserved
  else if (lineOf s x.line).state = .fault ∨ (lineOf s x.line).state = .test then some .lineUnavailable
  else if needsAccess && !x.accessible then some .notAccessible
  else if (occupiedNeighbours s slot leftOut n).isEmpty then none
  else some .adjacent

/-- The place of a grid position in a fill order (R11). -/
def positionKey (order : FillOrder) (at_ : Nat × Nat) : Nat :=
  match order with
  | .rowMajor => at_.1 * Config.columnCount + at_.2
  | .columnMajor => at_.2 * Config.rowCount + at_.1

/-- The grid position after one in a fill order (R11). -/
def nextPosition (order : FillOrder) (at_ : Nat × Nat) : Nat × Nat :=
  if at_ = (Config.rowCount - 1, Config.columnCount - 1) then (0, 0)
  else
    match order with
    | .rowMajor => if at_.2 = Config.columnCount - 1 then (at_.1 + 1, 0) else (at_.1, at_.2 + 1)
    | .columnMajor => if at_.1 = Config.rowCount - 1 then (0, at_.2 + 1) else (at_.1 + 1, at_.2)

/-- Insert a numbered item by its key. -/
def insertByKey (key : Nat) (n : Nat) : List (Nat × Nat) → List (Nat × Nat)
  | [] => [(key, n)]
  | (k, m) :: t => if key ≤ k then (key, n) :: (k, m) :: t else (k, m) :: insertByKey key n t

/-- The defined seats in a fill order, each with its place in it. -/
def orderedSeats (order : FillOrder) (s : State) : List (Nat × Nat) :=
  (definedSeats s).foldl (fun acc p => insertByKey (positionKey order (p.2.row, p.2.column)) p.1 acc) []

/-- The defined seats a walk visits: from the first at or after a position to the end of the order, then from its start
(R11). -/
def walkSeats (order : FillOrder) (from_ : Nat × Nat) (s : State) : List Nat :=
  let key := positionKey order from_
  let all := orderedSeats order s
  (all.filter (fun p => decide (key ≤ p.1)) ++ all.filter (fun p => decide (p.1 < key))).map (·.2)

/-- The seat a walk chooses for a candidate, in the passes of R12. -/
def findSeat (s : State) (c : Candidate) (order : FillOrder) (from_ : Nat × Nat) (leftOut : Option Nat) : Option Nat :=
  let passes := fun n => (seatFailure s c.slot c.needsAccess leftOut n).isNone
  let w := walkSeats order from_ s
  if c.needsAccess then w.find? fun n => (seatOf s n).accessible && passes n
  else
    match w.find? (fun n => !(seatOf s n).accessible && passes n) with
    | some n => some n
    | none => w.find? passes

/-! ## Defining and reading the hall -/

/-- The first test of R4 a define entry fails, or none. A flag that is neither 0 nor 1 is out of its range. -/
def defineFailure (s : State) (e : SeatEntry) : Option (Result × Detail) :=
  if ¬(e.seat < Config.seatCount ∧ e.row < Config.rowCount ∧ e.column < Config.columnCount ∧
       e.line < Config.lineCount ∧ 1 ≤ e.address ∧ e.address ≤ Config.deskCount ∧
       e.accessible ≤ 1 ∧ e.reserved ≤ 1 ∧ e.outOfService ≤ 1) then some (.badValue, .none_)
  else if (seatOf s e.seat).state = .assigned ∨ (seatOf s e.seat).state = .inUse ∨
      (seatOf s e.seat).state = .awaitingCollection then some (.wrongState, .seatOccupied)
  else if (definedSeats s).any (fun p => decide (p.1 ≠ e.seat ∧ p.2.row = e.row ∧ p.2.column = e.column))
  then some (.exists_, .positionUsed)
  else if (definedSeats s).any (fun p => decide (p.1 ≠ e.seat ∧ p.2.line = e.line ∧ p.2.address = e.address))
  then some (.exists_, .deskUsed)
  else none

/-- An accepted define entry (R4). -/
def defineSeat (e : SeatEntry) (s : State) : State :=
  let old := seatOf s e.seat
  let moved := decide (old.line ≠ e.line ∨ old.address ≠ e.address)
  let t := putSeat e.seat
    { row := e.row, column := e.column, line := e.line, address := e.address
      accessible := decide (e.accessible = 1), reserved := decide (e.reserved = 1)
      outOfService := decide (e.outOfService = 1)
      state := if e.outOfService = 1 then .outOfService else .free, candidate := none } s
  if old.state = .undefined then oweSeat e.line e.address t
  else if moved then oweSeat old.line old.address (oweSeat e.line e.address t)
  else t

/-- The test of R5 a remove entry fails, or none. -/
def removeFailure (s : State) (e : SeatEntry) : Option (Result × Detail) :=
  if ¬ e.seat < Config.seatCount then some (.badValue, .none_)
  else if (seatOf s e.seat).state = .assigned ∨ (seatOf s e.seat).state = .inUse ∨
      (seatOf s e.seat).state = .awaitingCollection then some (.wrongState, .seatOccupied)
  else none

/-- An accepted remove entry (R5). -/
def removeSeat (e : SeatEntry) (s : State) : State :=
  let old := seatOf s e.seat
  if old.state = .undefined then s
  else oweSeat old.line old.address (putSeat e.seat
    { old with accessible := false, reserved := false, outOfService := false, state := .undefined } s)

/-- One entry of DEFINE_SEATS: what refuses it, or none, and the state after it (R3). -/
def takeSeatEntry (e : SeatEntry) (s : State) : Option (Result × Detail) × State :=
  if e.kind = 0 then
    match defineFailure s e with
    | some r => (some r, s)
    | none => (none, defineSeat e s)
  else if e.kind = 1 then
    match removeFailure s e with
    | some r => (some r, s)
    | none => (none, removeSeat e s)
  else (some (.badValue, .none_), s)

/-- A refused entry of a list: its position, result, detail and object. -/
structure RefusedEntry where
  position : Nat
  result : Result
  detail : Detail
  object : Nat
  deriving DecidableEq, Repr

/-- The entries of DEFINE_SEATS in order from a position: the refused ones, and the state after them. -/
def takeSeatEntries : (position : Nat) → List SeatEntry → State → List RefusedEntry × State
  | _, [], s => ([], s)
  | k, e :: es, s =>
    let r := takeSeatEntry e s
    let rest := takeSeatEntries (k + 1) es r.2
    match r.1 with
    | none => rest
    | some (result, detail) => ({ position := k, result := result, detail := detail, object := e.seat } :: rest.1, rest.2)

/-- The refused entries of a DEFINE_SEATS reply (R3). -/
def refusedSeatFields (rs : List RefusedEntry) : List Field :=
  f1 rs.length :: rs.flatMap fun r => [f1 r.position, f1 (resultCode r.result), detailField r.detail]

def defineSeatsBody (tag count : Nat) (entries : List SeatEntry) (s : State) : State :=
  let q : Req := ⟨tag, 0x10⟩
  if 64 < oneByteCount count then refusePlain q .badValue s
  else if s.seatMap.alloc.isSome then refusePlain q .busy s
  else
    let r := takeSeatEntries 0 entries s
    match r.1 with
    | [] => ok q (refusedSeatFields []) r.2
    | e :: es => makeReply q e.result e.detail (some e.object) (refusedSeatFields (e :: es)) false r.2

/-- DEFINE_SEATS (R3 to R5). -/
def execDefineSeats (tag count : Nat) (entries : List SeatEntry) (s : State) : Host.Outcome State Fault Refusal :=
  request (.defineSeats tag count entries) s (defineSeatsBody tag count entries)

/-- Every field of a seat record, the three flags as one set, so that 64 records fit in a frame (R1, R184, log entry 51). -/
def seatFields (n : Nat) (x : Seat) : List Field :=
  [f2 n, f2 x.row, f2 x.column, f1 x.line, f2 x.address,
   f1 (x.accessible.toNat + 2 * x.reserved.toNat + 4 * x.outOfService.toNat), f1 x.state.ctorIdx, o4 x.candidate]

def getSeatsBody (tag first count : Nat) (s : State) : State :=
  let q : Req := ⟨tag, 0x11⟩
  if ¬ first < Config.seatCount ∨ 64 < oneByteCount count then refusePlain q .badValue s
  else
    let n := min (oneByteCount count) (Config.seatCount - first)
    ok q (f1 n :: (List.range n).flatMap fun i => seatFields (first + i) (seatOf s (first + i))) s

/-- GET_SEATS (R6). -/
def execGetSeats (tag first count : Nat) (s : State) : Host.Outcome State Fault Refusal :=
  request (.getSeats tag first count) s (getSeatsBody tag first count)

/-- The number of seats in a state; every seat that is not defined is UNDEFINED (R1). -/
def countSeats (s : State) (st : SeatState) : Nat :=
  if st = .undefined then Config.seatCount - (definedSeats s).length
  else ((definedSeats s).filter fun p => decide (p.2.state = st)).length

/-- What GET_SEAT_MAP returns (R6). -/
def seatMapFields (s : State) : List Field :=
  f1 s.seatMap.mode.ctorIdx ::
  sessionSlots.flatMap (fun k => [f2 (cursorOf s k).1, f2 (cursorOf s k).2]) ++
  f2 (definedSeats s).length ::
  [SeatState.undefined, .free, .assigned, .inUse, .awaitingCollection, .outOfService].map (fun st =>
    f2 (countSeats s st)) ++
  [o1 (s.seatMap.alloc.map (·.slot)), o1 (s.seatMap.alloc.map fun r => r.order.ctorIdx),
   o2 (s.seatMap.alloc.map (·.requested)), o2 (s.seatMap.alloc.map (·.seated)),
   o4 (s.seatMap.alloc.bind (·.lastTaken))]

def getSeatMapBody (tag : Nat) (s : State) : State := ok ⟨tag, 0x12⟩ (seatMapFields s) s

/-- GET_SEAT_MAP (R6). -/
def execGetSeatMap (tag : Nat) (s : State) : Host.Outcome State Fault Refusal :=
  request (.getSeatMap tag) s (getSeatMapBody tag)

def setSeparationBody (tag mode : Nat) (s : State) : State :=
  let q : Req := ⟨tag, 0x13⟩
  match chooseSepMode mode with
  | none => refusePlain q .badValue s
  | some m =>
    if s.seatMap.alloc.isSome then refusePlain q .busy s
    else if (definedSeats s).any (fun p => p.2.candidate.isSome) then refuse q .wrongState .seatOccupied none s
    else ok q [] { s with seatMap := { s.seatMap with mode := m } }

/-- SET_SEPARATION (R8). -/
def execSetSeparation (tag mode : Nat) (s : State) : Host.Outcome State Fault Refusal :=
  request (.setSeparation tag mode) s (setSeparationBody tag mode)

/-! ## ALLOCATE (R13 to R17) -/

/-- The first roster record from a position on that satisfies a test, with its place in the roster. -/
def nextFrom (p : Candidate → Bool) : (skip place : Nat) → List Candidate → Option (Nat × Candidate)
  | _, _, [] => none
  | k + 1, i, _ :: cs => nextFrom p k (i + 1) cs
  | 0, i, c :: cs => if p c then some (i, c) else nextFrom p 0 (i + 1) cs

/-- The next candidate a run takes up (R14). -/
def allocNext (s : State) (r : AllocRun) : Option (Nat × Candidate) :=
  nextFrom (fun c => decide (c.slot = r.slot ∧ c.state = .listed)) r.position 0 s.roster

/-- A run ends with its reply; its record stands until the reply is sent (R15, log entry 47). -/
def allocEnd (r : AllocRun) (result : Result) (object : Option Nat) (fields : List Field) (s : State) : State :=
  makeReply ⟨r.tag, 0x14⟩ result .none_ object fields true (putAlloc (some { r with ended := true }) s)

/-- A run ends with OK and its seated count (R15). -/
def allocDone (r : AllocRun) (s : State) : State :=
  allocEnd r .ok none [f2 r.seated] s

/-- A session that ALLOCATE and its steps may seat (R13, R14). -/
def allocatable (x : Session) : Bool := decide (x.state = .defined ∨ x.state = .seating)

/-- The checks of ALLOCATE in their order, and the run they begin or end at once (R13). While an ALLOCATE runs it is refused with
BUSY (R16) only where the checks before that one pass, the model's reading of the two rules (log entry 75). -/
def allocateBody (tag slot count : Nat) (origin : Option Nat) (order : Nat) (s : State) : State :=
  let q : Req := ⟨tag, 0x14⟩
  match chooseOrder order with
  | none => refusePlain q .badValue s
  | some d =>
    if ¬ slot < Config.sessionCount ∨ ¬ origin.all (fun n => decide (n < Config.seatCount)) then
      refusePlain q .badValue s
    else if ¬ origin.all (fun n => decide ((seatOf s n).state ≠ .undefined)) then refusePlain q .notFound s
    else if ¬ allocatable (sessionOf s slot) then refusePlain q .wrongState s
    else if s.seatMap.alloc.isSome then refusePlain q .busy s
    else
      let r : AllocRun :=
        { slot := slot, order := d, requested := oneByteCount count, seated := 0, lastTaken := none, position := 0
          tag := tag }
      let t := match origin with
        | none => s
        | some n => putCursor slot ((seatOf s n).row, (seatOf s n).column) s
      if (allocNext t r).isNone then allocDone r t else putAlloc (some r) t

/-- ALLOCATE (R13). -/
def execAllocate (tag slot count : Nat) (origin : Option Nat) (order : Nat) (s : State) :
    Host.Outcome State Fault Refusal :=
  request (.allocate tag slot count origin order) s (allocateBody tag slot count origin order)

/-- A placement by a run: the seat chosen for the candidate at a place of the roster (R14). -/
def allocPlace (r : AllocRun) (place : Nat) (c : Candidate) (n : Nat) (s : State) : State :=
  let x := seatOf s n
  let t := nameSeat c n .assigned s
  let t := enterState (seated c n s.timer.clock) .assigned .allocate t
  let t := putCursor r.slot (nextPosition r.order (x.row, x.column)) t
  let r' := { r with seated := r.seated + 1, lastTaken := some c.number, position := place + 1 }
  if r'.seated = r'.requested ∨ (allocNext t r').isNone then allocDone r' t else putAlloc (some r') t

def allocateStepBody (s : State) : State :=
  match s.seatMap.alloc with
  | none => s
  | some r =>
    if r.ended then s
    else if ¬ allocatable (sessionOf s r.slot) then
      allocEnd r .wrongState (some r.slot) [f2 r.seated, f2 (r.requested - r.seated)] s
    else
      match allocNext s r with
      | none => allocDone r s
      | some (place, c) =>
        match findSeat s c r.order (cursorOf s r.slot) none with
        | none => allocEnd r .noSeat (some c.number) [f4 c.number, f2 (r.requested - r.seated)] s
        | some n => allocPlace r place c n s

/-- ALLOCATE_STEP (R14, R15). -/
def execAllocateStep (s : State) : Host.Outcome State Fault Refusal := event s allocateStepBody

/-! ## Assignment, unassignment and moves (R18 to R22) -/

/-- A session whose candidates may be placed by ASSIGN_SEAT (R18) or added (R27). -/
def openToCandidates (x : Session) : Bool :=
  decide (x.state = .defined ∨ x.state = .seating ∨ x.state = .reading ∨ x.state = .writing ∨ x.state = .paused)

def assignSeatBody (tag candidate seat : Nat) (s : State) : State :=
  let q : Req := ⟨tag, 0x15⟩
  if ¬ seat < Config.seatCount then refusePlain q .badValue s
  else if s.seatMap.alloc.isSome then refusePlain q .busy s
  else
    match candidateOf s candidate with
    | none => refusePlain q .notFound s
    | some c =>
      if (seatOf s seat).state = .undefined then refusePlain q .notFound s
      else if ¬(c.state = .listed ∧ c.absencePending = false) then refusePlain q .wrongState s
      else if ¬ openToCandidates (sessionOf s c.slot) then refusePlain q .wrongState s
      else
        match seatFailure s c.slot c.needsAccess none seat with
        | some .adjacent => refuse q .noSeat .adjacent (occupiedNeighbours s c.slot none seat).min? s
        | some d => refuse q .noSeat d (some seat) s
        | none =>
          ok q [] (enterState (seated c seat s.timer.clock) .assigned .host (nameSeat c seat .assigned s))

/-- ASSIGN_SEAT (R18). -/
def execAssignSeat (tag candidate seat : Nat) (s : State) : Host.Outcome State Fault Refusal :=
  request (.assignSeat tag candidate seat) s (assignSeatBody tag candidate seat)

def unassignBody (tag candidate : Nat) (s : State) : State :=
  let q : Req := ⟨tag, 0x16⟩
  match candidateOf s candidate with
  | none => refusePlain q .notFound s
  | some c =>
    if ¬(c.state = .assigned ∧ c.absencePending = false) then refusePlain q .wrongState s
    else ok q [] (enterState (unseated c) .listed .host (freeSeatOf c s))

/-- UNASSIGN (R19). -/
def execUnassign (tag candidate : Nat) (s : State) : Host.Outcome State Fault Refusal :=
  request (.unassign tag candidate) s (unassignBody tag candidate)

/-- A move empties the old seat, retired or not (R21). -/
def emptySeat (n : Nat) (retire : Bool) (s : State) : State :=
  let x := seatOf s n
  oweSeatAtSeat n (putSeat n
    { x with
      candidate := none
      outOfService := x.outOfService || retire
      state := if x.outOfService || retire then .outOfService else .free } s)

/-- A move of a candidate to a seat, made in one step (R21, R22). -/
def moveTo (c : Candidate) (n : Nat) (retire : Bool) (s : State) : State :=
  let clock := s.timer.clock
  let t := match c.seat with
    | none => s
    | some o => emptySeat o retire s
  if c.state = .writing ∨ c.state = .resting then
    let d := seated (closeRest (sessionOf s c.slot) clock c) n clock
    enterState { d with moveStart := some clock, lastEffective := some clock } .moving .host (nameSeat c n .inUse t)
  else
    let d := { seated c n clock with arrival := none }
    let t := nameSeat c n .assigned t
    if c.state = .present then enterState d .assigned .host t else putCandidate d t

/-- The seat an AUTO move chooses: a ROW_MAJOR walk from after the candidate's own seat (R20). -/
def autoSeat (s : State) (c : Candidate) : Option Nat :=
  match c.seat with
  | none => none
  | some o => findSeat s c .rowMajor (nextPosition .rowMajor ((seatOf s o).row, (seatOf s o).column)) (some o)

def moveCandidateBody (tag candidate : Nat) (target : Option Nat) (retire : Nat) (s : State) : State :=
  let q : Req := ⟨tag, 0x17⟩
  match chooseFlag retire with
  | none => refusePlain q .badValue s
  | some ret =>
    if ¬ target.all (fun n => decide (n < Config.seatCount)) then refusePlain q .badValue s
    else if s.seatMap.alloc.isSome then refusePlain q .busy s
    else
      match candidateOf s candidate with
      | none => refusePlain q .notFound s
      | some c =>
        if ¬ target.all (fun n => decide ((seatOf s n).state ≠ .undefined)) then refusePlain q .notFound s
        else if ¬((c.state = .assigned ∧ c.absencePending = false) ∨ c.state = .present ∨ c.state = .writing ∨
            c.state = .resting) then refusePlain q .wrongState s
        else
          match target with
          | some n =>
            match seatFailure s c.slot c.needsAccess c.seat n with
            | some d => refuse q .noSeat d none s
            | none => ok q [f2 n] (moveTo c n ret s)
          | none =>
            match autoSeat s c with
            | none => refuse q .noSeat .noneEligible none s
            | some n => ok q [f2 n] (moveTo c n ret s)

/-- MOVE_CANDIDATE (R20 to R22). -/
def execMoveCandidate (tag candidate : Nat) (target : Option Nat) (retire : Nat) (s : State) :
    Host.Outcome State Fault Refusal :=
  request (.moveCandidate tag candidate target retire) s (moveCandidateBody tag candidate target retire)

end Sys2Proof.Machine
end

