-- ==== Sys2Proof/Machine/Roster.lean ====
section
/-! DEFINITION. The Roster's requests (R26 to R32) and its REST_OVER event (R41). -/

namespace Sys2Proof.Machine

/-- A stored: 100 at most, rounded down to a multiple of 5 (R27). -/
def clampAllowance (a : Nat) : Nat := min a 100 / 5 * 5

/-- B stored: 3,600 at most (R27). -/
def clampRest (b : Nat) : Nat := min b 3600

/-- A new record, LISTED, as R25 gives it. -/
def newCandidate (e : CandidateEntry) (clock : Nat) : Candidate :=
  { number := e.number, slot := e.slot, allowance := clampAllowance e.allowance
    restAllowance := clampRest e.restAllowance, needsAccess := decide (e.needsAccess = 1)
    stateSince := { at_ := clock } }

/-- A session candidates may be added to or moved to (R27, R28). -/
def takesCandidates (x : Session) : Bool :=
  decide (x.state = .defined ∨ x.state = .seating ∨ x.state = .reading ∨ x.state = .writing ∨ x.state = .paused)

/-- The first test of R27 an entry fails, or none. A NEEDS_ACCESS that is neither 0 nor 1 is out of its range (R186, R189): that
it fails the first test is the model's reading, since R27 names the number and the slot there (log entry 38). -/
def entryFailure (s : State) (e : CandidateEntry) : Option Result :=
  if ¬(candidateInRange e.number ∧ e.slot < Config.sessionCount ∧ e.needsAccess ≤ 1) then some .badValue
  else if ¬ takesCandidates (sessionOf s e.slot) then some .wrongState
  else if (candidateOf s e.number).isSome then some .exists_
  else none

/-- An entry's A or B is stored adjusted. -/
def entryClamped (e : CandidateEntry) : Bool :=
  decide (clampAllowance e.allowance ≠ e.allowance ∨ clampRest e.restAllowance ≠ e.restAllowance)

/-- A record joins the end of roster order (R26). -/
def appendCandidate (c : Candidate) (s : State) : State := { s with roster := s.roster ++ [c] }

/-- The outcome of an ADD_CANDIDATES: refused entries, then clamped ones as positions with candidate numbers. -/
structure Additions where
  refused : List RefusedEntry := []
  clamped : List (Nat × Nat) := []
  deriving DecidableEq, Repr

/-- The entries of ADD_CANDIDATES in order from a position (R27). -/
def takeCandidateEntries : (position : Nat) → List CandidateEntry → State → Additions × State
  | _, [], s => ({}, s)
  | k, e :: es, s =>
    match entryFailure s e with
    | some r =>
      let rest := takeCandidateEntries (k + 1) es s
      ({ rest.1 with
         refused := { position := k, result := r, detail := .none_, object := e.number } :: rest.1.refused }, rest.2)
    | none =>
      let rest := takeCandidateEntries (k + 1) es (appendCandidate (newCandidate e s.timer.clock) s)
      (if entryClamped e then { rest.1 with clamped := (k, e.number) :: rest.1.clamped } else rest.1, rest.2)

/-- The reply of ADD_CANDIDATES (R27). -/
def additionFields (a : Additions) : List Field :=
  [f1 a.refused.length] ++ a.refused.flatMap (fun r => [f1 r.position, f1 (resultCode r.result)]) ++
  [f1 a.clamped.length] ++ a.clamped.map (fun p => f1 p.1)

def addCandidatesBody (tag count : Nat) (entries : List CandidateEntry) (s : State) : State :=
  let q : Req := ⟨tag, 0x20⟩
  let free := Config.rosterCount - s.roster.length
  if 16 < oneByteCount count then refusePlain q .badValue s
  else if free < entries.length then refuse q .full .none_ (some free) s
  else
    let r := takeCandidateEntries 0 entries s
    match r.1.refused, r.1.clamped with
    | e :: _, _ => makeReply q e.result e.detail (some e.object) (additionFields r.1) false r.2
    | [], (_, n) :: _ => clampedReply q (some n) (additionFields r.1) r.2
    | [], [] => ok q (additionFields r.1) r.2

/-- ADD_CANDIDATES (R27). -/
def execAddCandidates (tag count : Nat) (entries : List CandidateEntry) (s : State) :
    Host.Outcome State Fault Refusal :=
  request (.addCandidates tag count entries) s (addCandidatesBody tag count entries)

/-- The candidate states in which SET_CANDIDATE is taken (R28). -/
def settable (st : CandState) : Bool :=
  decide (st = .listed ∨ st = .assigned ∨ st = .present ∨ st = .writing ∨ st = .resting ∨ st = .moving)

/-- A record with the named fields changed, A and B clamped (R28). -/
def changed (c : Candidate) (a b access slot : Option Nat) : Candidate :=
  { c with
    allowance := (a.map clampAllowance).getD c.allowance
    restAllowance := (b.map clampRest).getD c.restAllowance
    needsAccess := (access.map fun n => decide (n = 1)).getD c.needsAccess
    slot := slot.getD c.slot }

/-- What a change of a record brings with it: END owed where E changed, the REST_OVER of a lowered B, an end it lowered E
behind, and the closing test of the session a LISTED candidate left (R28, R41, R67, R70, R153). -/
def afterChange (c d : Candidate) (s : State) : State :=
  let t := putCandidate d s
  let t := if currentEnd s c = currentEnd s d then t else oweEndAt d t
  let t := if d.restAllowance < c.restAllowance then checkRestOverOf c.number t else t
  let t := reachLowered (currentEnd s c) c.number t
  if c.slot = d.slot then t else closeIfSettled c.slot t

def setCandidateBody (tag candidate : Nat) (a b access slot : Option Nat) (s : State) : State :=
  let q : Req := ⟨tag, 0x21⟩
  if ¬(slot.all (fun k => decide (k < Config.sessionCount)) ∧ access.all (fun n => decide (n ≤ 1))) then
    refusePlain q .badValue s
  else
    match candidateOf s candidate with
    | none => refusePlain q .notFound s
    | some c =>
      let d := changed c a b access slot
      if ¬ settable c.state then refusePlain q .wrongState s
      else if c.state ≠ .listed ∧ (d.needsAccess ≠ c.needsAccess ∨ d.slot ≠ c.slot) then
        refuse q .wrongState .seated none s
      else if ¬ slot.all (fun k => takesCandidates (sessionOf s k)) then refusePlain q .wrongState s
      else if a.all (fun v => clampAllowance v == v) && b.all (fun v => clampRest v == v) then
        ok q [] (afterChange c d s)
      else clampedReply q none [] (afterChange c d s)

/-- SET_CANDIDATE (R28). -/
def execSetCandidate (tag candidate : Nat) (a b access slot : Option Nat) (s : State) :
    Host.Outcome State Fault Refusal :=
  request (.setCandidate tag candidate a b access slot) s (setCandidateBody tag candidate a b access slot)

/-- The fields of a result (R176), every one absent when there is none. -/
def marksFields (m : Option Marks) : List Field :=
  [o1 (m.map (·.status.ctorIdx)), o1 (m.map (·.generation)),
   match m with
   | none => .opt 2 none
   | some r => .int 2 r.total,
   o2 (m.map (·.maximum)), o2 (m.map (·.percent)), o1 (m.map (·.correct)), o1 (m.map (·.wrong)),
   o1 (m.map (·.blank)), o1 (m.map (·.multi)), o1 (m.map (·.void_)), o1 (m.map (·.faint)),
   o1 (m.map fun r => r.review.toNat), o4 (m.map (·.scored)), o1 (m.map fun r => r.remarked.toNat)]

/-- The fields of one response entry (R177). -/
def responseFields (r : Response) : List Field :=
  [.bytes [r.marked], fb r.faint, f1 r.category.ctorIdx, .int 1 r.score]

/-- The fields of a response record: its entry count, absent without one, then the entries. -/
def responseRecordFields (r : Option (List Response)) : List Field :=
  match r with
  | none => [o1 none]
  | some es => f1 es.length :: es.flatMap responseFields

/-- Every field of R25 for one candidate. -/
def candidateFields (s : State) (c : Candidate) : List Field :=
  [f4 c.number, f1 c.slot, f1 c.allowance, f2 c.restAllowance, fb c.needsAccess,
   o2 c.seat, o4 (c.seatSince.map (·.at_)), f1 c.state.ctorIdx, f4 c.stateSince.at_,
   o4 c.arrival, o4 c.lastEffective, f4 c.restTaken, o4 c.restStart, f4 c.moveCredit, o4 c.moveStart,
   f2 c.grant, o4 (currentEnd s c), fb c.outAtEnd, fb (currentClamp s c), fb c.void_, fb c.exception,
   fb c.absencePending, o1 c.declared, .num 2 (setBits c.covers), fb c.sheetReceived] ++
  marksFields c.marks ++ responseRecordFields c.responses ++ [o2 c.bundle]

def getCandidateBody (tag candidate : Nat) (s : State) : State :=
  let q : Req := ⟨tag, 0x22⟩
  match candidateOf s candidate with
  | none => refusePlain q .notFound s
  | some c => ok q (candidateFields s c) s

/-- GET_CANDIDATE (R26). -/
def execGetCandidate (tag candidate : Nat) (s : State) : Host.Outcome State Fault Refusal :=
  request (.getCandidate tag candidate) s (getCandidateBody tag candidate)

/-- One record of LIST_CANDIDATES: number, state, seat and flags (R26). -/
def listedFields (s : State) (c : Candidate) : List Field :=
  [f4 c.number, f1 c.state.ctorIdx, o2 c.seat, fb c.needsAccess, fb c.outAtEnd, fb (currentClamp s c), fb c.void_,
   fb c.exception, fb c.absencePending]

/-- The records LIST_CANDIDATES lists: one session's, or all (R26). -/
def matching (s : State) (slot : Option Nat) : List Candidate :=
  match slot with
  | none => s.roster
  | some k => candidatesOf s k

/-- What LIST_CANDIDATES does (R26). The reply sends the count of its records, then the number that match in all, then the
records: where the second number stands is the model's choice (log entry 72). -/
def listCandidatesBody (tag : Nat) (slot : Option Nat) (first count : Nat) (s : State) : State :=
  let q : Req := ⟨tag, 0x23⟩
  if ¬ slot.all (fun k => decide (k < Config.sessionCount)) ∨ 64 < oneByteCount count then refusePlain q .badValue s
  else
    let page := ((matching s slot).drop first).take (oneByteCount count)
    ok q ([f1 page.length, f2 (matching s slot).length] ++ page.flatMap (listedFields s)) s

/-- LIST_CANDIDATES (R26). -/
def execListCandidates (tag : Nat) (slot : Option Nat) (first count : Nat) (s : State) :
    Host.Outcome State Fault Refusal :=
  request (.listCandidates tag slot first count) s (listCandidatesBody tag slot first count)

def withdrawBody (tag candidate : Nat) (s : State) : State :=
  let q : Req := ⟨tag, 0x24⟩
  match candidateOf s candidate with
  | none => refusePlain q .notFound s
  | some c =>
    if ¬(c.state = .listed ∨ c.state = .assigned ∨ c.state = .present) ∨ c.absencePending = true then
      refusePlain q .wrongState s
    else
      let t := enterState (unseated c) .withdrawn .host (freeSeatOf c s)
      ok q [] (if c.state = .listed then closeIfSettled c.slot t else t)

/-- WITHDRAW (R30, R153). -/
def execWithdraw (tag candidate : Nat) (s : State) : Host.Outcome State Fault Refusal :=
  request (.withdraw tag candidate) s (withdrawBody tag candidate)

def leaveCandidateBody (tag candidate : Nat) (s : State) : State :=
  let q : Req := ⟨tag, 0x25⟩
  match candidateOf s candidate with
  | none => refusePlain q .notFound s
  | some c =>
    if ¬ timeRuns c then refusePlain q .wrongState s
    else
      let d := { departed s c with lastEffective := some s.timer.clock }
      ok q [o4 d.personalEnd] (endSession c.slot (leaveNow c d .host s))

/-- LEAVE_CANDIDATE (R31). -/
def execLeaveCandidate (tag candidate : Nat) (s : State) : Host.Outcome State Fault Refusal :=
  request (.leaveCandidate tag candidate) s (leaveCandidateBody tag candidate)

def markAbsentBody (tag candidate : Nat) (s : State) : State :=
  let q : Req := ⟨tag, 0x26⟩
  match candidateOf s candidate with
  | none => refusePlain q .notFound s
  | some c =>
    if ¬(c.state = .assigned ∧ c.absencePending = true) then refusePlain q .wrongState s
    else ok q [] (endSession c.slot (becomeAbsent c .host s))

/-- MARK_ABSENT (R32). -/
def execMarkAbsent (tag candidate : Nat) (s : State) : Host.Outcome State Fault Refusal :=
  request (.markAbsent tag candidate) s (markAbsentBody tag candidate)

def restOverBody (candidate : Nat) (s : State) : State :=
  match candidateOf s candidate with
  | none => s
  | some c => if (sessionOf s c.slot).state = .paused then s else checkRestOver c s

/-- REST_OVER (R41): the running rest of a candidate reaches B. -/
def execRestOver (candidate : Nat) (s : State) : Host.Outcome State Fault Refusal := event s (restOverBody candidate)

end Sys2Proof.Machine
end

