-- ==== Sys2Proof/Machine/Timer.lean ====
section
/-! DEFINITION. The Session Timer: the clock's requests (R47, R48), the session requests (R50 to R61, R68, R69),
CLEAR_SESSION (R154, R155), the hall hold (R62) and the events of the clock (R47, R54 to R57, R70 to R73). -/

namespace Sys2Proof.Machine

/-- Replace the Session Timer's state. -/
def putTimer (x : Timer) (s : State) : State := { s with timer := x }

/-! ## The hall clock -/

/-- What GET_CLOCK returns (R47). -/
def clockFields (s : State) : List Field :=
  [f4 s.timer.clock, fb s.timer.clockUnset, o4 s.timer.failInstant, fb s.timer.inputHold, fb s.timer.hostHold,
   fb (hallHoldActive s)]

def getClockBody (tag : Nat) (s : State) : State := ok ⟨tag, 0x30⟩ (clockFields s) s

/-- GET_CLOCK (R47). -/
def execGetClock (tag : Nat) (s : State) : Host.Outcome State Fault Refusal :=
  request (.getClock tag) s (getClockBody tag)

/-- The session slots in SEATING, READING, WRITING or PAUSED (R48). -/
def busySlots (s : State) : List Nat :=
  sessionSlots.filter fun k => sessionRuns (sessionOf s k) || decide ((sessionOf s k).state = .seating)

/-- START_MISSED for a DEFINED session whose start the new clock has passed (R48). -/
def missPassed (slot : Nat) (s : State) : State :=
  let x := sessionOf s slot
  if x.state = .defined ∧ x.start ≤ s.timer.clock ∧ x.startMissed = false then missStart slot s else s

/-- The clock takes a new hall second by SET_CLOCK (R48). No start instant of the old clock stays due. Landing on second
86,399 makes the day end due, also where it was taken in that second: the model's choice (R72, log entry 11). -/
def setTime (clock : Nat) (s : State) : State :=
  let t := putTimer { s.timer with
    clock := clock, clockUnset := false, dayEndTaken := false
    sessions := s.timer.sessions.map fun p => (p.1, { p.2 with startDue := false }) } s
  forEach sessionSlots missPassed (markInstants t)

def setClockBody (tag hours minutes seconds : Nat) (s : State) : State :=
  let q : Req := ⟨tag, 0x31⟩
  if ¬(hours ≤ 23 ∧ minutes ≤ 59 ∧ seconds ≤ 59) then refusePlain q .badValue s
  else
    match busySlots s with
    | k :: _ => refuse q .wrongState .sessionRunning (some k) s
    | [] =>
      let clock := hours * 3600 + minutes * 60 + seconds
      ok q [f4 clock] (setTime clock s)

/-- SET_CLOCK (R48). -/
def execSetClock (tag hours minutes seconds : Nat) (s : State) : Host.Outcome State Fault Refusal :=
  request (.setClock tag hours minutes seconds) s (setClockBody tag hours minutes seconds)

/-! ## Defining and reading sessions -/

/-- A character of a paper code (R49). -/
def paperChar (c : Char) : Bool := ('A' ≤ c && c ≤ 'Z') || ('0' ≤ c && c ≤ '9')

/-- Every field of DEFINE_SESSION lies in its range (R49, R50). -/
def sessionInRange (e : SessionEntry) : Bool :=
  e.paper.length == 6 && e.paper.all paperChar && decide (e.form ≤ 65535) && decide (e.start ≤ Config.lastSecond) &&
  decide (e.reading ≤ 1800) && decide (300 ≤ e.writing ∧ e.writing ≤ 21600) && decide (e.late ≤ 3600) &&
  decide (e.bar ≤ e.writing) && decide (e.lock ≤ 1800) && decide (e.warn1 ≤ 3600) && decide (e.warn2 ≤ 3600) &&
  decide (e.grain = 1 ∨ e.grain = 60 ∨ e.grain = 300) && decide (e.sheetRequired ≤ 1) &&
  e.bundleSize.all (fun n => decide (5 ≤ n ∧ n ≤ 40)) &&
  (e.warn1 == 0 || e.warn2 == 0 || decide (e.warn2 < e.warn1))

/-- Another non-FREE session has the form code (R50). -/
def formUsed (s : State) (slot form : Nat) : Bool :=
  sessionSlots.any fun k =>
    decide (k ≠ slot ∧ (sessionOf s k).state ≠ .free ∧ (sessionOf s k).form = form)

/-- The session record DEFINE_SESSION leaves, its state apart (R50, R63, R71). -/
def definedRecord (x : Session) (e : SessionEntry) : Session :=
  { (if x.state = .free then ({} : Session) else x) with
    paper := e.paper, form := e.form, start := e.start, reading := e.reading, writing := e.writing, late := e.late
    bar := e.bar, lock := e.lock, warn1 := e.warn1, warn2 := e.warn2, grain := e.grain
    sheetRequired := decide (e.sheetRequired = 1), bundleSize := e.bundleSize.getD 25
    startMissed := false, startDue := false, warn1Raised := false, warn2Raised := false }

/-- SEAT is made owed at every seat naming a candidate of the session (R50). -/
def oweSessionSeats (slot : Nat) (s : State) : State :=
  forEach (definedSeats s) (fun p t =>
    match p.2.candidate.bind (candidateOf s) with
    | none => t
    | some c => if c.slot = slot then oweSeat p.2.line p.2.address t else t) s

/-- DEFINE_SESSION writes the session and its key's form code (R50, R159). -/
def defineSessionNow (slot : Nat) (e : SessionEntry) (s : State) : State :=
  let x := sessionOf s slot
  let y := definedRecord x e
  let t := if x.state = .free then enterSession slot { y with state := .free } .defined .define s
    else putSession slot { y with state := .defined } s
  let t := if x.paper = e.paper then t else oweSessionSeats slot t
  putKey slot { keyOf t slot with form := some e.form } t

def defineSessionBody (tag slot : Nat) (e : SessionEntry) (s : State) : State :=
  let q : Req := ⟨tag, 0x32⟩
  let x := sessionOf s slot
  if ¬(slot < Config.sessionCount ∧ sessionInRange e) then refusePlain q .badValue s
  else if s.timer.clockUnset then refuse q .wrongState .clockUnset none s
  else if ¬(x.state = .free ∨ x.state = .defined) then refusePlain q .wrongState s
  else if e.start ≤ s.timer.clock then refuse q .wrongState .startPassed none s
  else if formUsed s slot e.form then refuse q .exists_ .formUsed none s
  else ok q [] (defineSessionNow slot e s)

/-- DEFINE_SESSION (R50). -/
def execDefineSession (tag slot : Nat) (entry : SessionEntry) (s : State) : Host.Outcome State Fault Refusal :=
  request (.defineSession tag slot entry) s (defineSessionBody tag slot entry)

/-- The candidate states in order. -/
def candStates : List CandState :=
  [.listed, .assigned, .present, .writing, .resting, .moving, .finished, .left, .absent, .withdrawn, .collected]

/-- How many candidates of a session are in a state. -/
def countIn (s : State) (slot : Nat) (st : CandState) : Nat :=
  ((candidatesOf s slot).filter fun c => decide (c.state = st)).length

/-- The pause log of a session: whole, or for ALL its horizon and its number of intervals (R51). -/
def pauseLogFields (x : Session) (whole : Bool) : List Field :=
  if whole then f1 x.pauseLog.length :: x.pauseLog.flatMap (fun iv => [f4 iv.1, f4 iv.2]) ++ [o4 x.horizon]
  else [o4 x.horizon, f1 x.pauseLog.length]

/-- What GET_SESSION returns of one session (R51). -/
def sessionFields (s : State) (slot : Nat) (whole : Bool) : List Field :=
  let x := sessionOf s slot
  let clock := s.timer.clock
  if x.state = .free then [f1 x.state.ctorIdx]
  else
    [f1 slot, .chars x.paper, f2 x.form, f1 x.state.ctorIdx, f4 x.start, f2 x.reading, f2 x.writing, f2 x.late,
     f2 x.bar, f2 x.lock, f2 x.warn1, f2 x.warn2, f2 x.grain, fb x.sheetRequired, f1 x.bundleSize,
     fb x.startMissed, f4 x.closedPause, o4 x.pauseStart, f1 (causeBits x.causes), o1 (x.target.map (·.ctorIdx))] ++
    pauseLogFields x whole ++
    [o4 x.writingStart, o4 x.cutoffTaken, f2 x.extension, fb x.warn1Raised, fb x.warn2Raised,
     f4 (totalPause x clock), f4 (baseEnd x clock), f4 (longestEnd s slot), f4 (lateCutoff x clock)] ++
    candStates.map (fun st => f2 (countIn s slot st))

def getSessionBody (tag : Nat) (slot : Option Nat) (s : State) : State :=
  let q : Req := ⟨tag, 0x33⟩
  match slot with
  | none => ok q (sessionSlots.flatMap fun k => sessionFields s k false) s
  | some k => if k < Config.sessionCount then ok q (sessionFields s k true) s else refusePlain q .badValue s

/-- GET_SESSION (R51). -/
def execGetSession (tag : Nat) (slot : Option Nat) (s : State) : Host.Outcome State Fault Refusal :=
  request (.getSession tag slot) s (getSessionBody tag slot)

/-! ## Seating, start and abort -/

def openSeatingBody (tag slot : Nat) (s : State) : State :=
  let q : Req := ⟨tag, 0x34⟩
  let x := sessionOf s slot
  if ¬ slot < Config.sessionCount then refusePlain q .badValue s
  else if x.state ≠ .defined then refusePlain q .wrongState s
  else if x.start ≤ s.timer.clock ∧ x.startMissed = false then refuse q .wrongState .startPassed none s
  else ok q [] (enterSession slot { x with startDue := false } .seating .host s)

/-- OPEN_SEATING (R53). -/
def execOpenSeating (tag slot : Nat) (s : State) : Host.Outcome State Fault Refusal :=
  request (.openSeating tag slot) s (openSeatingBody tag slot)

/-- A start with S set to the current clock (R54, R76). -/
def startAtClock (slot : Nat) (cause : SessCause) (s : State) : State :=
  startNow slot cause (putSession slot { sessionOf s slot with start := s.timer.clock } s)

def startSessionBody (tag slot : Nat) (s : State) : State :=
  let q : Req := ⟨tag, 0x35⟩
  if ¬ slot < Config.sessionCount then refusePlain q .badValue s
  else if (sessionOf s slot).state ≠ .seating then refusePlain q .wrongState s
  else ok q [f4 s.timer.clock] (startAtClock slot .host s)

/-- START_SESSION (R54). -/
def execStartSession (tag slot : Nat) (s : State) : Host.Outcome State Fault Refusal :=
  request (.startSession tag slot) s (startSessionBody tag slot)

/-- What ABORT_SESSION makes of one candidate (R58). -/
def abortCandidate (c : Candidate) (s : State) : State :=
  if timeRuns c then leaveNow c { departed s c with void_ := true } .abort s
  else if c.state = .present then
    enterState { c with void_ := true } .left .abort (setStateOfSeat c .awaitingCollection s)
  else if c.state = .assigned then becomeAbsent c .abort s
  else s

/-- The abort of a session (R58). -/
def abortNow (slot : Nat) (s : State) : State :=
  let x := closePause (sessionOf s slot) s.timer.clock
  let t := eachCandidate slot abortCandidate (putSession slot { x with causes := {}, target := none } s)
  enterSession slot { sessionOf t slot with startDue := false } .void_ .abort t

/-- A session in SEATING, READING, WRITING or PAUSED (R58, R61). -/
def sessionOpen (x : Session) : Bool := sessionRuns x || decide (x.state = .seating)

def abortSessionBody (tag slot : Nat) (s : State) : State :=
  let q : Req := ⟨tag, 0x36⟩
  if ¬ slot < Config.sessionCount then refusePlain q .badValue s
  else if ¬ sessionOpen (sessionOf s slot) then refusePlain q .wrongState s
  else
    let left := ((candidatesOf s slot).filter fun c => timeRuns c || decide (c.state = .present)).length
    ok q [f2 left, f2 (countIn s slot .assigned)] (abortNow slot s)

/-- ABORT_SESSION (R58). -/
def execAbortSession (tag slot : Nat) (s : State) : Host.Outcome State Fault Refusal :=
  request (.abortSession tag slot) s (abortSessionBody tag slot)

/-! ## Pauses and the hall hold -/

/-- What PAUSE_SESSION and RESUME_SESSION return: the session state and the cause set after the request (R61). -/
def pauseFields (s : State) (slot : Nat) : List Field :=
  [f1 (sessionOf s slot).state.ctorIdx, f1 (causeBits (sessionOf s slot).causes)]

def pauseSessionBody (tag slot : Nat) (s : State) : State :=
  let q : Req := ⟨tag, 0x37⟩
  if ¬ slot < Config.sessionCount then refusePlain q .badValue s
  else if ¬ sessionOpen (sessionOf s slot) then refusePlain q .wrongState s
  else
    let t := addCause slot .host s.timer.clock .host s
    ok q (pauseFields t slot) t

/-- PAUSE_SESSION (R61). -/
def execPauseSession (tag slot : Nat) (s : State) : Host.Outcome State Fault Refusal :=
  request (.pauseSession tag slot) s (pauseSessionBody tag slot)

def resumeSessionBody (tag slot : Nat) (s : State) : State :=
  let q : Req := ⟨tag, 0x38⟩
  if ¬ slot < Config.sessionCount then refusePlain q .badValue s
  else if ¬ sessionOpen (sessionOf s slot) then refusePlain q .wrongState s
  else
    let t := removeCauses slot (fun c => { c with host := false, power := false }) .host s
    ok q (pauseFields t slot) t

/-- RESUME_SESSION (R61). -/
def execResumeSession (tag slot : Nat) (s : State) : Host.Outcome State Fault Refusal :=
  request (.resumeSession tag slot) s (resumeSessionBody tag slot)

def holdHallBody (tag : Nat) (s : State) : State := ok ⟨tag, 0x39⟩ [] (setHold s.timer.inputHold true s)

/-- HOLD_HALL (R62). -/
def execHoldHall (tag : Nat) (s : State) : Host.Outcome State Fault Refusal :=
  request (.holdHall tag) s (holdHallBody tag)

def releaseHallBody (tag : Nat) (s : State) : State := ok ⟨tag, 0x3A⟩ [] (setHold s.timer.inputHold false s)

/-- RELEASE_HALL (R62). -/
def execReleaseHall (tag : Nat) (s : State) : Host.Outcome State Fault Refusal :=
  request (.releaseHall tag) s (releaseHallBody tag)

/-- HALL_HOLD_INPUT (R62): the level of the hall-hold input. -/
def execHallHoldInput (asserted : Bool) (s : State) : Host.Outcome State Fault Refusal :=
  .next (putTimer { s.timer with holdInput := asserted } s)

/-- INPUT_HOLD (R62): the input has stood at its level for 1 s without a break, and the input hold follows it. -/
def execInputHold (s : State) : Host.Outcome State Fault Refusal :=
  event s fun t => setHold t.timer.holdInput t.timer.hostHold t

/-! ## Extensions and grants -/

/-- A warning's raised flag after an extension: cleared where its instant now lies after the clock (R68). -/
def stillRaised (raised : Bool) (newBase clock offset : Nat) : Bool :=
  raised && !decide (clock + offset < newBase)

/-- Q grows by seconds, up to 3,600; ends, ENDs owed and warning flags follow (R68). -/
def extendNow (slot seconds : Nat) (s : State) : State :=
  let clock := s.timer.clock
  let x := { sessionOf s slot with extension := min 3600 ((sessionOf s slot).extension + seconds) }
  let y := { x with
    warn1Raised := stillRaised x.warn1Raised (baseEnd x clock) clock x.warn1
    warn2Raised := stillRaised x.warn2Raised (baseEnd x clock) clock x.warn2 }
  let t := putSession slot y s
  eachCandidate slot (fun c u =>
    if timeRuns c ∧ currentEnd s c ≠ currentEnd t c then oweEndAt c u else u) t

def extendSessionBody (tag slot seconds : Nat) (s : State) : State :=
  let q : Req := ⟨tag, 0x3B⟩
  if ¬(slot < Config.sessionCount ∧ 1 ≤ seconds ∧ seconds ≤ 3600) then refusePlain q .badValue s
  else if ¬ sessionRuns (sessionOf s slot) then refusePlain q .wrongState s
  else
    let t := extendNow slot seconds s
    let fields := [f2 (sessionOf t slot).extension, f4 (baseEnd (sessionOf t slot) t.timer.clock)]
    if 3600 < (sessionOf s slot).extension + seconds then clampedReply q none fields t else ok q fields t

/-- EXTEND_SESSION (R68). -/
def execExtendSession (tag slot seconds : Nat) (s : State) : Host.Outcome State Fault Refusal :=
  request (.extendSession tag slot seconds) s (extendSessionBody tag slot seconds)

/-- G grows by seconds, up to 3,600, and END is made owed where E changed (R69). -/
def grantNow (c : Candidate) (seconds : Nat) (s : State) : State :=
  let d := { c with grant := min 3600 (c.grant + seconds) }
  let t := putCandidate d s
  if currentEnd s c = currentEnd s d then t else oweEndAt d t

def grantTimeBody (tag candidate seconds : Nat) (s : State) : State :=
  let q : Req := ⟨tag, 0x3C⟩
  if ¬(1 ≤ seconds ∧ seconds ≤ 3600) then refusePlain q .badValue s
  else
    match candidateOf s candidate with
    | none => refusePlain q .notFound s
    | some c =>
      if ¬ timeRuns c then refusePlain q .wrongState s
      else
        let d := { c with grant := min 3600 (c.grant + seconds) }
        let fields := [f2 d.grant, o4 (currentEnd s d)]
        if 3600 < c.grant + seconds then clampedReply q none fields (grantNow c seconds s)
        else ok q fields (grantNow c seconds s)

/-- GRANT_TIME (R69). -/
def execGrantTime (tag candidate seconds : Nat) (s : State) : Host.Outcome State Fault Refusal :=
  request (.grantTime tag candidate seconds) s (grantTimeBody tag candidate seconds)

/-! ## CLEAR_SESSION (R154, R155) -/

/-- A store slot with a form code is MARKING (R154, R160). -/
def formMarking (s : State) (form : Nat) : Bool :=
  (allSlots s).any fun p => decide (p.2.state = .marking ∧ p.2.form = some form)

/-- A REMARK of the session is running. -/
def remarkOf (s : State) (slot : Nat) : Bool := s.marking.remark.any fun r => r.slot == slot

/-- The first failing check of R154, or none. The BUSY that R16 gives the session being allocated, R146 the swept one and R182
the remarked one comes where the session is DEFINED or CLOSED; in another state (SEATING under an ALLOCATE, COLLECTING under a
sweep) an earlier check fails with WRONG_STATE, the model's reading of those rules and R154's order (log entry 75). -/
def clearFailure (s : State) (slot : Nat) : Option Result :=
  let x := sessionOf s slot
  if ¬ slot < Config.sessionCount then some .badValue
  else if ¬(x.state = .defined ∨ x.state = .closed) then some .wrongState
  else if s.seatMap.alloc.any (fun r => r.slot == slot) then some .busy
  else if s.coll.sweep.any (fun r => r.slot == slot) then some .busy
  else if formMarking s x.form || remarkOf s slot then some .busy
  else none

/-- How many of the first `position` roster records belong to a session. -/
def removedBefore (s : State) (slot position : Nat) : Nat :=
  ((s.roster.take position).filter fun c => c.slot == slot).length

/-- The session's records leave the roster, and the runs of other sessions keep their places in it (R26, R155). -/
def removeCandidates (slot : Nat) (s : State) : State :=
  let t := putAlloc (s.seatMap.alloc.map fun r => { r with position := r.position - removedBefore s slot r.position }) s
  let t := putRemark
    (s.marking.remark.map fun r => { r with position := r.position - removedBefore s slot r.position }) t
  { t with roster := t.roster.filter fun c => c.slot != slot }

/-- The headers of a session's bundles. -/
def bundlesOf (s : State) (slot : Nat) : List (Nat × Bundle) :=
  (List.range Config.bundleCount).filterMap fun h =>
    match bundleOf s h with
    | none => none
    | some b => if b.slot = slot then some (h, b) else none

/-- The session's bundles are removed and its bundle numbering starts again (R155). -/
def removeBundles (slot : Nat) (s : State) : State :=
  putNextBundle slot 1 (putOpenBundle slot none (forEach (bundlesOf s slot) (fun p => putBundle p.1 none) s))

/-- The slot leaves the boards' blank set and focus (R110). -/
def leaveBoards (slot : Nat) (s : State) : State :=
  { s with boards := { s.boards with
    blankSet := s.boards.blankSet.filter (· != slot)
    focus := if s.boards.focus = some slot then none else s.boards.focus } }

/-- The clear of a session (R155). SESSION_STATE carries the paper code the session had, the model's choice (log entry 68). -/
def clearNow (slot : Nat) (s : State) : State :=
  let x := sessionOf s slot
  let t := forEach (candidatesOf s slot) freeSeatOf s
  let t := leaveBoards slot (putKey slot {} (removeBundles slot (removeCandidates slot t)))
  raise (.sessionState slot x.paper x.state .free {} .host s.timer.clock) (putSession slot {} t)

def clearSessionBody (tag slot : Nat) (s : State) : State :=
  let q : Req := ⟨tag, 0x3D⟩
  match clearFailure s slot with
  | some r => refusePlain q r s
  | none => ok q [f2 (candidatesOf s slot).length, f2 (bundlesOf s slot).length] (clearNow slot s)

/-- CLEAR_SESSION (R154, R155). -/
def execClearSession (tag slot : Nat) (s : State) : Host.Outcome State Fault Refusal :=
  request (.clearSession tag slot) s (clearSessionBody tag slot)

/-! ## Events of the clock -/

/-- The hall second after one (R47). -/
def nextSecond (clock : Nat) : Nat := if Config.lastSecond ≤ clock then 0 else clock + 1

/-- The start instant of every SEATING and DEFINED session with S in the second just reached is due (R54). -/
def markStarts (s : State) : State :=
  putTimer { s.timer with sessions := s.timer.sessions.map fun p =>
    (p.1, if (p.2.state = .seating ∨ p.2.state = .defined) ∧ p.2.start = s.timer.clock
          then { p.2 with startDue := true } else p.2) } s

/-- A second passes at a station: its warm-up timer falls while it is WARMING; its idle timer grows while it is IDLE with
no request raised, up to the 3,600 s its field holds, and stays at 0 while one is (R114, R116). -/
def stationSecond (x : Station) : Station :=
  match x.state with
  | .warming => { x with warmTimer := x.warmTimer - 1 }
  | .idle => { x with idleTimer := if x.request then 0 else min 3600 (x.idleTimer + 1) }
  | _ => x

/-- A second passes at every station. -/
def stationSeconds (s : State) : State :=
  { s with reader := { s.reader with stations := s.reader.stations.map fun p => (p.1, stationSecond p.2) } }

/-- The clock advances one second with main power present (R47, R73). -/
def advance (s : State) : State :=
  let clock := nextSecond s.timer.clock
  let t := putTimer { s.timer with clock := clock, clockCopy := clock, dayEndTaken := false } s
  markStarts (if Config.lastSecond ≤ s.timer.clock then dayWrap t else t)

/-- A second of the hall clock, and the session ends it makes due (R47, R57). -/
def clockTickBody (s : State) : State := forEach sessionSlots endSession (stationSeconds (advance s))

/-- CLOCK_TICK (R47). Without main power only the clock itself counts. -/
def execClockTick (s : State) : Host.Outcome State Fault Refusal :=
  if s.powered then event s clockTickBody
  else .next (putTimer { s.timer with clock := nextSecond s.timer.clock } s)

/-- The start instant of a session is taken (R54). -/
def sessionStartBody (slot : Nat) (s : State) : State :=
  let x := sessionOf s slot
  if x.startDue = true ∧ x.state = .seating then startNow slot .clock s
  else if x.startDue = true ∧ x.state = .defined then missStart slot s
  else s

/-- SESSION_START (R54). -/
def execSessionStart (slot : Nat) (s : State) : Host.Outcome State Fault Refusal := event s (sessionStartBody slot)

/-- The reading end of a READING session is reached: it is WRITING (R55). -/
def writingStartBody (slot : Nat) (s : State) : State :=
  let x := sessionOf s slot
  if x.state = .reading ∧ readingEnd x s.timer.clock ≤ s.timer.clock then
    beginWriting slot (enterSession slot x .writing .clock s)
  else s

/-- WRITING_START (R55). -/
def execWritingStart (slot : Nat) (s : State) : Host.Outcome State Fault Refusal := event s (writingStartBody slot)

/-- CUTOFF_EVENT (R56), with the session end that may follow (R57). -/
def execCutoffEvent (slot : Nat) (s : State) : Host.Outcome State Fault Refusal :=
  eventWhen s (cutoffDue s slot) fun t => endSession slot (takeCutoff slot t)

/-- PERSONAL_END (R70), with the session end that may follow (R57). -/
def execPersonalEnd (candidate : Nat) (s : State) : Host.Outcome State Fault Refusal :=
  event s fun t => endSessionOf candidate (reachEndOf candidate t)

/-- SESSION_WARNING (R71). -/
def execSessionWarning (slot : Nat) (s : State) : Host.Outcome State Fault Refusal := event s (giveWarnings slot)

/-- The day end of every running session (R72). -/
def dayEndBody (s : State) : State :=
  forEach sessionSlots dayEndSession (putTimer { s.timer with dayEndTaken := true } s)

/-- DAY_END (R72): taken once in the second 86,399. -/
def execDayEnd (s : State) : Host.Outcome State Fault Refusal :=
  eventWhen s (decide (s.timer.clock = Config.lastSecond ∧ s.timer.dayEndTaken = false)) dayEndBody

end Sys2Proof.Machine
end

