-- ==== Sys2Proof/Machine/BoardDriver.lean ====
section
/-! DEFINITION. The Board Driver: its requests (R102, R103, R108 to R110), the paging of the line list (R107), the
composition of a board frame (R101, R104 to R106, R111, R112) and its events. -/

namespace Sys2Proof.Machine

/-- Replace the Board Driver's state. -/
def putBoards (b : Boards) (s : State) : State := { s with boards := b }

/-! ## The line list and its page -/

/-- A session qualifies for a line (R105). -/
def qualifies (x : Session) : Bool :=
  decide (x.state = .seating ∨ x.state = .reading ∨ x.state = .writing ∨ x.state = .paused ∨ x.state = .ended ∨
    x.state = .collecting)

/-- The line list: the qualifying sessions in slot order (R105). -/
def lineList (s : State) : List Nat := sessionSlots.filter fun k => qualifies (sessionOf s k)

/-- The page size n (R107). -/
def pageSize (b : Boards) : Nat := b.rows - 1

/-- The dwell count has reached the dwell, 20 frames to the second (R107, rule 3). -/
def dwellReached (b : Boards) : Bool := decide (20 * b.dwell ≤ b.dwellCount)

/-- The page start after a turn, with q qualifying sessions (R107, rule 3). -/
def turnPage (q : Nat) (b : Boards) : Boards :=
  { b with pageStart := if q ≤ b.pageStart + pageSize b then 0 else b.pageStart + pageSize b, dwellCount := 0 }

/-- The page start and dwell count a frame is composed with (R107). -/
def paged (q : Nat) (b : Boards) : Boards :=
  if q ≤ pageSize b ∨ q ≤ b.pageStart then { b with pageStart := 0, dwellCount := 0 }
  else if dwellReached b then turnPage q b
  else b

/-- The message standing: one whose remaining duration is not yet 0 (R109). -/
def standingMessage (b : Boards) : Option (List Char × Nat) := b.message.filter fun m => decide (0 < m.2)

/-! ## Attributes and cells -/

/-- The attribute of a session line (R111). -/
def lineAttr (s : State) (slot : Nat) : LineAttr :=
  let x := sessionOf s slot
  let clock := s.timer.clock
  if s.boards.blankSet.contains slot then .blank
  else if x.state = .paused then .paused
  else if x.state = .writing ∧ warningDue x clock x.warn2 then .alert
  else if x.state = .writing ∧ warningDue x clock x.warn1 then .warn
  else if x.state = .ended ∨ x.state = .collecting then .dim
  else .plain

/-- How a line with an attribute is sent (R112). -/
def renderingOf : LineAttr → Rendering
  | .blank => .normal
  | .paused => .reverse
  | .alert => .bold
  | .warn => .bold
  | .dim => .dim
  | .plain => .normal

/-- The ALERT blink is on (R112). -/
def alertOn (phase : Nat) : Bool := decide (phase % 32 < 16)

/-- The focus marker is in its on-phase (R112). -/
def markerOn (phase : Nat) : Bool := decide (phase % 64 < 32)

/-- The digit character of a number below 10. -/
def digit (n : Nat) : Char := Char.ofNat (48 + n % 10)

/-- Two decimal digits. -/
def twoDigits (n : Nat) : List Char := [digit (n / 10), digit n]

/-- A time as hours and minutes of the day (R106). -/
def hhmm (t : Nat) : List Char := twoDigits (t / 3600) ++ twoDigits (t / 60 % 60)

/-- A time as hh:mm:ss (R104). -/
def hhmmss (t : Nat) : List Char :=
  twoDigits (t / 3600) ++ [':'] ++ twoDigits (t / 60 % 60) ++ [':'] ++ twoDigits (t % 60)

/-- Cells of blanks. -/
def blanks (n : Nat) : List Char := List.replicate n ' '

/-- A text padded with blank cells to a width, or cut to it. -/
def padTo (n : Nat) (text : List Char) : List Char := (text ++ blanks n).take n

/-- A number of up to three digits, right-aligned in three cells. -/
def right3 (n : Nat) : List Char :=
  if n < 10 then [' ', ' ', digit n]
  else if n < 100 then [' ', digit (n / 10), digit n]
  else [digit (n / 100), digit (n / 10), digit n]

/-- The state word of a line (R105). -/
def stateWord : SessState → List Char
  | .seating => ['S', 'E', 'A', 'T']
  | .reading => ['R', 'E', 'A', 'D']
  | .writing => ['W', 'R', 'I', 'T', 'E']
  | .paused => ['P', 'A', 'U', 'S', 'E']
  | .ended => ['E', 'N', 'D', 'E', 'D']
  | .collecting => ['C', 'O', 'L', 'L']
  | _ => []

/-- The minutes to base end, rounded up, 999 at most (R106). -/
def remainingMinutes (x : Session) (clock : Nat) : Nat := min 999 ((baseEnd x clock - clock + 59) / 60)

/-- The remaining field: blank in SEATING, ENDED and COLLECTING (R105). -/
def remainingCells (x : Session) (clock : Nat) : List Char :=
  if x.state = .reading ∨ x.state = .writing ∨ x.state = .paused then right3 (remainingMinutes x clock) else blanks 3

/-- Cells 2 to 32 of a session line (R105, R106). -/
def lineText (s : State) (slot : Nat) : List Char :=
  let x := sessionOf s slot
  let clock := s.timer.clock
  padTo 6 x.paper ++ [' '] ++ padTo 5 (stateWord x.state) ++ [' '] ++ hhmm x.start ++ [' '] ++
  hhmm (baseEnd x clock) ++ [' '] ++ hhmm (longestEnd s slot) ++ [' '] ++ remainingCells x clock

/-- The focus marker is shown on a session's line, the line's row not covered (R108). -/
def markerShown (s : State) (slot : Nat) : Bool :=
  decide (s.boards.focus = some slot) && decide (lineAttr s slot ≠ .blank) && markerOn s.boards.phase

/-- A session line as its attribute and the phase send it (R112). -/
def sessionRow (s : State) (slot : Nat) : BoardRow :=
  let a := lineAttr s slot
  let hidden := decide (a = .blank) || (decide (a = .alert) && !alertOn s.boards.phase)
  { cells := (if markerShown s slot then '>' else ' ') :: (if hidden then blanks 31 else lineText s slot)
    rendering := renderingOf a }

/-- A blank row. -/
def blankRow : BoardRow := { cells := blanks 32, rendering := .normal }

/-- Row 0: the clock and the hall hold (R104). -/
def clockRow (s : State) : BoardRow :=
  let time := if s.timer.clockUnset then ['-', '-', ':', '-', '-', ':', '-', '-'] else hhmmss s.timer.clock
  { cells := time ++ blanks 20 ++ (if hallHoldActive s then ['H', 'O', 'L', 'D'] else blanks 4)
    rendering := if hallHoldActive s then .reverse else .normal }

/-- A row of the page, row 1 being place 0: the message on the last one while it stands, a session line, or blank
(R105, R109). -/
def pageRow (s : State) (b : Boards) (place : Nat) : BoardRow :=
  match standingMessage b with
  | some m =>
    if place + 1 = pageSize b then { cells := padTo 32 m.1, rendering := .normal }
    else match (lineList s)[b.pageStart + place]? with
      | some k => sessionRow s k
      | none => blankRow
  | none =>
    match (lineList s)[b.pageStart + place]? with
    | some k => sessionRow s k
    | none => blankRow

/-- The frame composed from the state with the page found (R101). -/
def composeFrame (s : State) (b : Boards) : List BoardRow :=
  clockRow s :: (List.range (pageSize b)).map (pageRow s b)

/-! ## Requests -/

def configureBoardsBody (tag rows : Nat) (dwell : Option Nat) (s : State) : State :=
  let q : Req := ⟨tag, 0x50⟩
  if ¬(4 ≤ rows ∧ rows ≤ 16 ∧ 8 ≤ dwell.getD 10 ∧ dwell.getD 10 ≤ 60) then refusePlain q .badValue s
  else ok q [] (putBoards { s.boards with rows := rows, dwell := dwell.getD 10, pageStart := 0, dwellCount := 0 } s)

/-- CONFIGURE_BOARDS (R102). -/
def execConfigureBoards (tag rows : Nat) (dwell : Option Nat) (s : State) : Host.Outcome State Fault Refusal :=
  request (.configureBoards tag rows dwell) s (configureBoardsBody tag rows dwell)

/-- The entries of the line list that a page shows and no message covers (R105, R109). -/
def shownSlots (s : State) (b : Boards) : List Nat :=
  ((lineList s).drop b.pageStart).take (if (standingMessage b).isSome then pageSize b - 1 else pageSize b)

/-- The rendering each session line would receive in the next frame (R103), given for every entry of the line list,
those off the page too (log entry 58). The list has no count field of its own: the number of qualifying sessions counts it too,
the model's choice (log entry 74); so is that the attribute "none" of R111 is sent as its place in R111's list, 5, and not as
an absent field (log entry 81). -/
def renderingFields (s : State) : List Field :=
  let b := paged (lineList s).length s.boards
  (lineList s).flatMap fun k =>
    [f1 (lineAttr s k).ctorIdx, fb ((shownSlots s b).contains k && markerShown s k)]

/-- What GET_BOARDS returns (R103). An absent message text is one byte FFh (log entry 59). -/
def boardsFields (s : State) : List Field :=
  let b := s.boards
  [f1 b.rows, f2 b.dwell, o1 b.focus, f1 (setBits b.blankSet), f1 b.pageStart, f2 b.dwellCount, f1 b.phase,
   f1 (lineList s).length] ++ (lineList s).map f1 ++
  (match standingMessage b with
   | none => [o1 none, o2 none]
   | some m => [.text m.1, f2 m.2]) ++
  renderingFields s

def getBoardsBody (tag : Nat) (s : State) : State := ok ⟨tag, 0x51⟩ (boardsFields s) s

/-- GET_BOARDS (R103). -/
def execGetBoards (tag : Nat) (s : State) : Host.Outcome State Fault Refusal :=
  request (.getBoards tag) s (getBoardsBody tag)

def setFocusBody (tag : Nat) (slot : Option Nat) (s : State) : State :=
  let q : Req := ⟨tag, 0x52⟩
  if ¬ slot.all (fun k => decide (k < Config.sessionCount)) then refusePlain q .badValue s
  else if ¬ slot.all (fun k => decide ((sessionOf s k).state ≠ .free)) then refusePlain q .wrongState s
  else ok q [] (putBoards { s.boards with focus := slot } s)

/-- SET_FOCUS (R108). -/
def execSetFocus (tag : Nat) (slot : Option Nat) (s : State) : Host.Outcome State Fault Refusal :=
  request (.setFocus tag slot) s (setFocusBody tag slot)

/-- A character a message may hold (R109). -/
def messageChar (c : Char) : Bool := paperChar c || [' ', '.', ',', ':', '-', '/', '(', ')'].contains c

def boardMessageBody (tag : Nat) (text : List Char) (duration : Nat) (s : State) : State :=
  let q : Req := ⟨tag, 0x53⟩
  if text.isEmpty then ok q [] (putBoards { s.boards with message := none } s)
  else if ¬(text.length ≤ 32 ∧ text.all messageChar ∧ 1 ≤ duration ∧ duration ≤ 600) then refusePlain q .badValue s
  else ok q [] (putBoards { s.boards with message := some (text, 20 * duration) } s)

/-- BOARD_MESSAGE (R109). -/
def execBoardMessage (tag : Nat) (text : List Char) (duration : Nat) (s : State) :
    Host.Outcome State Fault Refusal :=
  request (.boardMessage tag text duration) s (boardMessageBody tag text duration)

def boardBlankBody (tag slot choice : Nat) (s : State) : State :=
  let q : Req := ⟨tag, 0x54⟩
  match chooseFlag choice with
  | none => refusePlain q .badValue s
  | some yes =>
    if ¬ slot < Config.sessionCount then refusePlain q .badValue s
    else if (sessionOf s slot).state = .free then refusePlain q .wrongState s
    else ok q [] (putBoards { s.boards with
      blankSet := if yes then insertRising slot s.boards.blankSet else s.boards.blankSet.filter (· != slot) } s)

/-- BOARD_BLANK (R110). -/
def execBoardBlank (tag slot choice : Nat) (s : State) : Host.Outcome State Fault Refusal :=
  request (.boardBlank tag slot choice) s (boardBlankBody tag slot choice)

/-! ## Events -/

/-- What sending a frame leaves: the phase, the dwell count and the message's remaining duration move on (R101, R107,
R109). -/
def afterFrame (q : Nat) (frame : List BoardRow) (b : Boards) : Boards :=
  { b with
    phase := (b.phase + 1) % 64
    dwellCount := if pageSize b < q then b.dwellCount + 1 else b.dwellCount
    message := b.message.map fun m => (m.1, m.2 - 1)
    lastFrame := some frame }

def boardFrameBody (s : State) : State :=
  let q := (lineList s).length
  let b := paged q s.boards
  putBoards (afterFrame q (composeFrame s b) b) s

/-- BOARD_FRAME (R101): a frame is composed and sent. -/
def execBoardFrame (s : State) : Host.Outcome State Fault Refusal := event s boardFrameBody

/-- A page turn is due (R107, rule 3). -/
def pageTurnDue (s : State) : Bool :=
  decide (pageSize s.boards < (lineList s).length ∧ s.boards.pageStart < (lineList s).length) && dwellReached s.boards

/-- PAGE_TURN (R107, rule 3). -/
def execPageTurn (s : State) : Host.Outcome State Fault Refusal :=
  eventWhen s (pageTurnDue s) fun t => putBoards (turnPage (lineList t).length t.boards) t

/-- MESSAGE_EXPIRY (R109): the remaining duration is 0 and the message is removed. -/
def execMessageExpiry (s : State) : Host.Outcome State Fault Refusal :=
  eventWhen s (s.boards.message.any fun m => m.2 == 0) fun t => putBoards { t.boards with message := none } t

end Sys2Proof.Machine
end

