-- ==== Sys2Proof/Machine/DeskLine.lean ====
section
/-! DEFINITION. The Desk Line Controller: its requests (R79, R80, R96), the slots of a cycle (R81, R82, R87, R88), the
judgement of replies (R84, R85, R89 to R91), the end of a cycle (R92 to R94), the transmit fault (R95) and the line
tests (R97 to R99). A cycle's slots come in their order: `Line.position` is the slot that comes next. -/

namespace Sys2Proof.Machine

/-- The cycle length N in slots (R77). -/
def cycleLength (x : Line) : Nat := 2 + x.desks + x.spare

/-- A line enters a state: LINE_STATE is raised (section 4.6). `y` is its record after the change, its state apart. -/
def enterLine (line : Nat) (y : Line) (new : LineState) (cause : LineCause) (s : State) : State :=
  raise (.lineState line (lineOf s line).state new cause s.timer.clock) (putLine line { y with state := new } s)

/-- DESK_REACH is raised for a desk as its record stands (R90, R91). -/
def reportReach (line address : Nat) (s : State) : State :=
  raise (.deskReach line address (seatAt s line address) (deskOf s line address).reachable
    (deskOf s line address).displayOk) s

/-- The polled addresses 1 to D. -/
def polledAddresses (x : Line) : List Nat := (List.range x.desks).map (· + 1)

/-! ## Requests -/

/-- The counts of a line test (R97, R98): good and bad frames, or the list of good echoes of addresses 1 to D with its
count before it (R186). -/
def testCounts (x : Line) (t : LineTest) : List Field :=
  match t.mode with
  | .local_ => [f2 t.good, f2 t.bad]
  | .echo => f1 x.desks :: (polledAddresses x).map fun a => f1 (tableRead 0 t.echoes a)

/-- A running test ends with ABORTED, carrying the cycles run and the counts so far (R99). -/
def abortTest (line : Nat) (detail : Detail) (s : State) : State :=
  match (lineOf s line).test with
  | none => s
  | some t =>
    makeReply ⟨t.tag, 0x43⟩ .aborted detail none (f1 t.run :: testCounts (lineOf s line) t) true
      (putLine line { lineOf s line with test := none } s)

/-- The spare slots stored for a requested count (R79). -/
def clampSpare (desks spare : Nat) : Nat :=
  let n := if spare = 0 then 1 else min spare 16
  if 123 < desks + n then 123 - desks else n

/-- A desk above the new desk count goes out of reach (R79). -/
def dropDesk (line address : Nat) (s : State) : State :=
  if (deskOf s line address).reachable then
    reportReach line address (putDesk line address { deskOf s line address with reachable := false } s)
  else s

/-- A polled desk at CONFIGURE_LINE: its missed-poll count is 0, and END and SEAT are owed (R79), on a line in FAULT too,
which CONFIGURE_LINE leaves (R95). -/
def renewDesk (line address : Nat) (s : State) : State :=
  putDesk line address { deskOf s line address with missedPolls := 0, owedSeat := true, owedEnd := true } s

/-- The effects of CONFIGURE_LINE (R79). The desks above the new D that go out of reach raise DESK_REACH in rising address,
the model's choice (log entry 17). -/
def configureNow (line desks spare : Nat) (keep : Bool) (s : State) : State :=
  let t := abortTest line .none_ s
  let x := { lineOf t line with
    desks := desks, spare := spare, autoKeep := keep, missedCycles := 0, probe := 1, delivery := 0
    position := 0, keepCycle := false, replySeen := false, awaited := none }
  let t := putLine line x t
  let t := forEach (polledAddresses x) (fun a => renewDesk line a) t
  let t := forEach ((List.range (Config.deskCount - desks)).map (· + desks + 1)) (fun a => dropDesk line a) t
  if x.state = .running then t else enterLine line x .running .configure t

def configureLineBody (tag line desks spare autoKeep : Nat) (s : State) : State :=
  let q : Req := ⟨tag, 0x40⟩
  if ¬(line < Config.lineCount ∧ 1 ≤ desks ∧ desks ≤ Config.deskCount ∧ autoKeep ≤ 1) then refusePlain q .badValue s
  else
    let sp := clampSpare desks spare
    let t := configureNow line desks sp (decide (autoKeep = 1)) s
    let n := 2 + desks + sp
    let fields := [f1 sp, f1 n, f2 (2 * n)]
    if sp = spare then ok q fields t else clampedReply q (some line) fields t

/-- CONFIGURE_LINE (R79). -/
def execConfigureLine (tag line desks spare autoKeep : Nat) (s : State) : Host.Outcome State Fault Refusal :=
  request (.configureLine tag line desks spare autoKeep) s (configureLineBody tag line desks spare autoKeep)

/-- What GET_LINE returns (R80): while no test runs its mode reads absent and its other fields are not there. -/
def lineFields (x : Line) : List Field :=
  [f1 x.state.ctorIdx, f1 x.desks, f1 x.spare, fb x.autoKeep, f1 x.missedCycles, f2 x.probe, f2 x.delivery,
   f1 (cycleLength x), f2 (2 * cycleLength x), o1 (x.test.map (·.mode.ctorIdx))] ++
  match x.test with
  | none => []
  | some t => f1 t.requested :: f1 t.run :: testCounts x t

def getLineBody (tag line : Nat) (s : State) : State :=
  let q : Req := ⟨tag, 0x41⟩
  if line < Config.lineCount then ok q (lineFields (lineOf s line)) s else refusePlain q .badValue s

/-- GET_LINE (R80). -/
def execGetLine (tag line : Nat) (s : State) : Host.Outcome State Fault Refusal :=
  request (.getLine tag line) s (getLineBody tag line)

/-- A desk record with the seat that carries the desk (R80). A card present or display ok that is unknown (R78) is sent as an
absent field, the model's choice (log entry 73). -/
def deskFields (s : State) (line address : Nat) : List Field :=
  let d := deskOf s line address
  [f1 (if d.reachable then 0 else 1), f1 d.missedPolls, f1 (owedBits d), o1 (d.displayCode.map (·.ctorIdx)),
   o4 (d.ackedEnd.getD none), o1 (d.takenMark.map Bool.toNat), o1 (d.cardPresent.map Bool.toNat),
   o1 (d.displayOk.map Bool.toNat), o1 d.buffered, o2 (seatAt s line address)]

def getDesksBody (tag line first count : Nat) (s : State) : State :=
  let q : Req := ⟨tag, 0x42⟩
  if ¬(line < Config.lineCount ∧ 1 ≤ first ∧ first ≤ Config.deskCount ∧ oneByteCount count ≤ 64) then
    refusePlain q .badValue s
  else
    let n := min (oneByteCount count) (Config.deskCount + 1 - first)
    ok q (f1 n :: (List.range n).flatMap fun i => deskFields s line (first + i)) s

/-- GET_DESKS (R80). -/
def execGetDesks (tag line first count : Nat) (s : State) : Host.Outcome State Fault Refusal :=
  request (.getDesks tag line first count) s (getDesksBody tag line first count)

/-- The lowest-numbered seat on a line that names a candidate in PRESENT, WRITING, RESTING or MOVING (R96). -/
def lineInUse (s : State) (line : Nat) : Option Nat :=
  ((definedSeats s).find? fun p => decide (p.2.line = line) &&
    (p.2.candidate.bind (candidateOf s)).any (fun c => timeRuns c || decide (c.state = .present))).map (·.1)

/-- The four checks of LINE_TEST in their order, and the test record they let in (R96). -/
def lineTestBody (tag line mode cycles : Nat) (s : State) : State :=
  let q : Req := ⟨tag, 0x43⟩
  match chooseTestMode mode with
  | none => refusePlain q .badValue s
  | some m =>
    if ¬(line < Config.lineCount ∧ oneByteCount cycles ≤ 255) then refusePlain q .badValue s
    else if (lineOf s line).state = .test then refusePlain q .busy s
    else if ¬((lineOf s line).state = .running ∨ (lineOf s line).state = .lost) then refusePlain q .wrongState s
    else
      match lineInUse s line with
      | some n => refuse q .lineInUse .none_ (some n) s
      | none =>
        enterLine line { lineOf s line with
          test := some { mode := m, requested := cycles, tag := tag }
          position := 0, keepCycle := false, replySeen := false, awaited := none } .test .test s

/-- LINE_TEST (R96). -/
def execLineTest (tag line mode cycles : Nat) (s : State) : Host.Outcome State Fault Refusal :=
  request (.lineTest tag line mode cycles) s (lineTestBody tag line mode cycles)

/-! ## Slots -/

/-- The line is polled: RUNNING or LOST. -/
def linePolled (x : Line) : Bool := decide (x.state = .running ∨ x.state = .lost)

/-- The line runs a test of a mode. -/
def inTest (x : Line) (m : TestMode) : Bool :=
  decide (x.state = .test) && x.test.any fun t => decide (t.mode = m)

/-- The slot before has been judged: no poll is waiting for its reply. A delivery does not hold the next slot up, since
its missing reply is not judged (R88). -/
def slotDone (x : Line) : Bool :=
  match x.awaited with
  | some (.poll _) => false
  | _ => true

/-- The slot numbered `lo` to `hi` may come now. -/
def slotDue (x : Line) (lo hi : Nat) : Bool := slotDone x && decide (lo ≤ x.position ∧ x.position ≤ hi)

/-- A slot passes: what is sent in it, and what it then awaits. -/
def passSlot (x : Line) (sent : DeskFrame) (awaits : Option Awaited) : Line :=
  { x with position := x.position + 1, lastSent := some sent, awaited := awaits }

/-- The sync broadcast (R81). -/
def syncFrame (s : State) : DeskFrame :=
  .sync s.timer.clock
    (sessionSlots.map fun k => ((sessionOf s k).state, decide ((sessionOf s k).state = .paused)))
    (hallHoldActive s)

/-- A LOST line with AUTO_KEEP set is polled by probes (R93). -/
def probing (x : Line) : Bool := decide (x.state = .lost) && x.autoKeep

def syncBody (line : Nat) (s : State) : State :=
  let x := lineOf s line
  if (linePolled x || inTest x .echo) && slotDue x 0 0 then
    putLine line { passSlot x (syncFrame s) none with keepCycle := probing x, replySeen := false } s
  else s

/-- SYNC (R81, R98): slot 0 of a cycle. -/
def execSync (line : Nat) (s : State) : Host.Outcome State Fault Refusal := event s (syncBody line)

def markerBody (line : Nat) (s : State) : State :=
  let x := lineOf s line
  if linePolled x && slotDue x 1 1 then putLine line (passSlot x (.marker (probing x)) none) s
  else if inTest x .echo && slotDue x 1 1 then putLine line (passSlot x (.marker true) none) s
  else s

/-- MARKER (R81, R93, R98): slot 1 of a cycle. -/
def execMarker (line : Nat) (s : State) : Host.Outcome State Fault Refusal := event s (markerBody line)

/-- A poll to an address carries the desk's last taken mark (R82). -/
def pollFrame (s : State) (line address : Nat) : DeskFrame := .poll address (deskOf s line address).takenMark

/-- The address after one, wrapping from D to 1 (R93). -/
def nextAddress (desks address : Nat) : Nat := if desks ≤ address then 1 else address + 1

def pollBody (line : Nat) (s : State) : State :=
  let x := lineOf s line
  if linePolled x && slotDue x 2 (x.desks + 1) then
    if x.keepCycle then
      if x.position = 2 then
        putLine line { passSlot x (pollFrame s line x.probe) (some (.poll x.probe)) with
          probe := nextAddress x.desks x.probe } s
      else putLine line (passSlot x .silent none) s
    else putLine line (passSlot x (pollFrame s line (x.position - 1)) (some (.poll (x.position - 1)))) s
  else s

/-- POLL (R82, R93): a poll slot of a cycle. -/
def execPoll (line : Nat) (s : State) : Host.Outcome State Fault Refusal := event s (pollBody line)

/-- The owed set is not empty. -/
def owesAny (d : Desk) : Bool := d.owedEnd || d.owedSeat || d.owedDisplay

/-- The desk a spare slot serves (R87). -/
def servedDesk (s : State) (line : Nat) : Option Nat :=
  let x := lineOf s line
  let all := polledAddresses x
  (all.filter (fun a => decide (x.delivery < a)) ++ all.filter (fun a => decide (a ≤ x.delivery))).find? fun a =>
    (deskOf s line a).reachable && owesAny (deskOf s line a)

/-- The candidate the seat of a desk names, if a defined seat carries the desk. -/
def deskCandidate (s : State) (line address : Nat) : Option Candidate :=
  (seatAt s line address).bind (namedAt s)

/-- The delivered end at a desk, or none (R88). -/
def deskEnd (s : State) (line address : Nat) : Option Nat :=
  (deskCandidate s line address).bind (deliveredEnd s)

/-- A delivery frame composed from the records (R88). -/
def deliveryFrame (s : State) (line address : Nat) (kind : Delivery) : DeskFrame :=
  let c := deskCandidate s line address
  match kind with
  | .seat => .seat address (seatAt s line address) (c.map (·.number))
      (c.map fun d => ((sessionOf s d.slot).paper, d.slot))
  | .display => .display address (deskOf s line address).displayCode
  | .end_ => .end_ address (c.map (·.slot)) (deskEnd s line address)
      (c.any fun d => decide (d.state = .finished ∨ d.state = .left ∨ d.state = .collected))

/-- The delivery chosen from an owed set: DISPLAY, then SEAT, then END (R87). -/
def chosenDelivery (d : Desk) : Delivery :=
  if d.owedDisplay then .display else if d.owedSeat then .seat else .end_

/-- SEAT and DISPLAY are cleared when their frame is sent; END stays owed (R88). -/
def afterSending (d : Desk) (kind : Delivery) : Desk :=
  match kind with
  | .display => { d with owedDisplay := false, displayCode := none }
  | .seat => { d with owedSeat := false }
  | .end_ => d

/-- One delivery is sent to a desk (R87, R88). -/
def sendDelivery (line address : Nat) (s : State) : State :=
  let d := deskOf s line address
  let kind := chosenDelivery d
  let x := { passSlot (lineOf s line) (deliveryFrame s line address kind) (some (.delivery address kind)) with
    delivery := address }
  putLine line x (putDesk line address (afterSending d kind) s)

def spareSlotBody (line : Nat) (s : State) : State :=
  let x := lineOf s line
  let due := slotDue x (x.desks + 2) (x.desks + x.spare + 1)
  if linePolled x && due then
    if x.keepCycle then putLine line (passSlot x .silent none) s
    else
      match servedDesk s line with
      | none => putLine line (passSlot x .silent none) s
      | some a => sendDelivery line a s
  else if inTest x .echo && due then putLine line (passSlot x .silent none) s
  else s

/-- SPARE_SLOT (R87, R88, R93, R98): a spare slot of a cycle. -/
def execSpareSlot (line : Nat) (s : State) : Host.Outcome State Fault Refusal := event s (spareSlotBody line)

/-! ## Replies -/

/-- The first valid reply of a LOST line makes it RUNNING, END owed at every polled desk; any valid reply sets the
missed-cycle count to 0 (R82, R92, R94). -/
def lineAnswered (line : Nat) (s : State) : State :=
  let x := { lineOf s line with missedCycles := 0, replySeen := true, awaited := none }
  if x.state = .lost then oweEndOnLine line (enterLine line x .running .reply s) else putLine line x s

/-- The status of a valid reply is recorded, and the desk's missed-poll count is 0 (R84). -/
def recordStatus (line : Nat) (r : DeskReply) (s : State) : State :=
  putDesk line r.address { deskOf s line r.address with
    missedPolls := 0, cardPresent := some r.cardPresent, displayOk := some r.displayOk, buffered := some r.buffered } s

/-- A poll or probe answered by an UNREACHABLE desk makes it REACHABLE (R91). -/
def returnDesk (line address : Nat) (s : State) : State :=
  reportReach line address (oweSeat line address
    (putDesk line address { deskOf s line address with reachable := true, takenMark := none } s))

/-- The display state is compared with the one recorded before (R91). Its DESK_REACH comes after that of a return to REACHABLE
in the same reply, the model's choice (log entry 77). -/
def compareDisplay (line address : Nat) (before : Option Bool) (now : Bool) (s : State) : State :=
  if now = false ∧ before ≠ some false then reportReach line address s
  else if now = true ∧ before = some false then reportReach line address (oweSeat line address s)
  else s

/-- An event in a poll or probe reply is taken unless its mark is the last taken mark (R85). -/
def takeEvent (line : Nat) (r : DeskReply) (kind : EventKind) (s : State) : State :=
  if kind = .none_ ∨ (deskOf s line r.address).takenMark = some r.mark then s
  else
    handOn line r.address kind r.argument r.stamp
      (putDesk line r.address { deskOf s line r.address with takenMark := some r.mark } s)

/-- ACK_END: the echoed end is recorded, and END cleared when it equals the delivered end (R89). -/
def takeAck (line : Nat) (r : DeskReply) (s : State) : State :=
  let echo := echoedEnd r.argument
  let d := { deskOf s line r.address with ackedEnd := some echo }
  putDesk line r.address (if echo = deskEnd s line r.address then { d with owedEnd := false } else d) s

/-- A valid reply in a slot is taken (R84, R85, R89, R91, R94), the drain it may show last (R45). That a changed display ok bit
is reported, and what it owes made owed, before the event of the same reply is judged, and that an ACK_END is judged before
the drain of its reply is reported, is the model's choice (log entry 77); so is that the END a returned display owes comes
before an ACK_END in the same reply is judged (log entry 56). -/
def takeReply (line : Nat) (slot : Awaited) (r : DeskReply) (kind : EventKind) (s : State) : State :=
  let before := deskOf s line r.address
  let t := recordStatus line r (lineAnswered line s)
  let t := match slot with
    | .poll a => if before.reachable then t else returnDesk line a t
    | .delivery _ _ => t
  let t := compareDisplay line r.address before.displayOk r.displayOk t
  let t := match slot with
    | .poll _ => takeEvent line r kind t
    | .delivery _ .end_ => takeAck line r t
    | .delivery _ _ => t
  if r.buffered = 0 then reportDrain line r.address t else t

def deskReplyBody (line : Nat) (bytes : List Byte) (s : State) : State :=
  match (lineOf s line).awaited with
  | none => s
  | some slot =>
    if linePolled (lineOf s line) then
      match validReply slot bytes with
      | none => s
      | some (r, kind) => takeReply line slot r kind s
    else s

/-- DESK_REPLY (R84). Bytes that make no valid reply are treated as no reply. -/
def execDeskReply (line : Nat) (bytes : List Byte) (s : State) : Host.Outcome State Fault Refusal :=
  event s (deskReplyBody line bytes)

/-- A poll goes unanswered: the missed-poll count grows, and at 8 a REACHABLE desk is UNREACHABLE (R82, R90). -/
def missPoll (line address : Nat) (s : State) : State :=
  let d := deskOf s line address
  let d := { d with missedPolls := min 8 (d.missedPolls + 1) }
  if d.missedPolls = 8 ∧ d.reachable = true then
    reportReach line address (putDesk line address
      { d with reachable := false, owedDisplay := false, displayCode := none } s)
  else putDesk line address d s

def pollNoReplyBody (line : Nat) (s : State) : State :=
  match (lineOf s line).awaited with
  | some (.poll a) =>
    if linePolled (lineOf s line) then missPoll line a (putLine line { lineOf s line with awaited := none } s) else s
  | _ => s

/-- POLL_NO_REPLY (R82, R90): a poll or probe slot ends without a valid reply. -/
def execPollNoReply (line : Nat) (s : State) : Host.Outcome State Fault Refusal := event s (pollNoReplyBody line)

def lineCycleEndBody (line : Nat) (s : State) : State :=
  let x := lineOf s line
  if linePolled x && slotDue x (cycleLength x) (cycleLength x) then
    let y := { x with position := 0, awaited := none, replySeen := false }
    if x.state = .running ∧ x.replySeen = false then
      if 3 ≤ x.missedCycles + 1 then enterLine line { y with missedCycles := 3 } .lost .silent s
      else putLine line { y with missedCycles := x.missedCycles + 1 } s
    else putLine line y s
  else s

/-- LINE_CYCLE_END (R92). -/
def execLineCycleEnd (line : Nat) (s : State) : Host.Outcome State Fault Refusal := event s (lineCycleEndBody line)

/-! ## Faults and tests -/

def transmitFaultBody (line : Nat) (s : State) : State :=
  let x := lineOf s line
  if linePolled x || inTest x .echo then
    let t := abortTest line .lineFault s
    enterLine line { lineOf t line with awaited := none } .fault .fault t
  else s

/-- TRANSMIT_FAULT (R95, R99): the driver monitor finds a fault during a frame it watches. -/
def execTransmitFault (line : Nat) (s : State) : Host.Outcome State Fault Refusal := event s (transmitFaultBody line)

def loopFrameBody (line : Nat) (intact : Bool) (s : State) : State :=
  let x := lineOf s line
  match x.test with
  | none => s
  | some t =>
    if inTest x .local_ && decide (x.position < cycleLength x) then
      putLine line { passSlot x .loop none with
        test := some (if intact then { t with good := t.good + 1 } else { t with bad := t.bad + 1 }) } s
    else s

/-- LOOP_FRAME (R97): a slot of a LOCAL test. -/
def execLoopFrame (line : Nat) (intact : Bool) (s : State) : Host.Outcome State Fault Refusal :=
  event s (loopFrameBody line intact)

def echoRequestBody (line : Nat) (intact : Bool) (s : State) : State :=
  let x := lineOf s line
  match x.test with
  | none => s
  | some t =>
    if inTest x .echo && slotDue x 2 (x.desks + 1) then
      let a := x.position - 1
      putLine line { passSlot x (.echoRequest a) none with
        test := some (if intact then { t with echoes := tableWrite t.echoes a (min 255 (tableRead 0 t.echoes a + 1)) }
          else t) } s
    else s

/-- ECHO_REQUEST (R98): a poll slot of an ECHO test. -/
def execEchoRequest (line : Nat) (intact : Bool) (s : State) : Host.Outcome State Fault Refusal :=
  event s (echoRequestBody line intact)

/-- The line leaves TEST for RUNNING: its missed-cycle count is 0 and END is owed at every polled desk (R99); its probe
and delivery positions stay, the model's choice (R100, log entry 61). -/
def leaveTest (line : Nat) (cause : LineCause) (s : State) : State :=
  oweEndOnLine line (enterLine line { lineOf s line with
    test := none, missedCycles := 0, position := 0, keepCycle := false, replySeen := false, awaited := none }
    .running cause s)

def testCycleEndBody (line : Nat) (s : State) : State :=
  let x := lineOf s line
  match x.test with
  | none => s
  | some t =>
    if decide (x.state = .test) && slotDue x (cycleLength x) (cycleLength x) then
      if t.requested ≤ t.run + 1 then
        makeReply ⟨t.tag, 0x43⟩ .ok .none_ none (testCounts x t) true (leaveTest line .testEnd s)
      else putLine line { x with position := 0, test := some { t with run := t.run + 1 } } s
    else s

/-- TEST_CYCLE_END (R97 to R99). -/
def execTestCycleEnd (line : Nat) (s : State) : Host.Outcome State Fault Refusal := event s (testCycleEndBody line)

end Sys2Proof.Machine
end

