-- ==== Sys2Proof/Machine/Link.lean ====
section
/-! DEFINITION. The Link Interface and the Notice Queue: its five requests (R194 to R196, R200) and the events of the
receiver and the transmitter (R187 to R192, R197). -/

namespace Sys2Proof.Machine

/-- Replace the Link Interface's state. -/
def putLink (l : Link) (s : State) : State := { s with link := l }

/-- The part code (R195). -/
def partCode : List Char := ['C', 'W', '9', '6', '0']

/-- What IDENTIFY returns (R195). -/
def identifyFields (s : State) : List Field :=
  [.text partCode, f1 revision,
   f2 Config.seatCount, f2 Config.rosterCount, f1 Config.sessionCount, f1 Config.lineCount, f1 Config.deskCount,
   f1 Config.stationCount, f1 Config.storeCount, f1 Config.coverCount, f2 Config.bundleCount,
   f1 Config.noticeCount, f1 Config.bufferCount,
   f4 (if s.link.fastBaud then 460800 else 115200), f1 s.link.lastStart.ctorIdx, f1 s.link.retention.ctorIdx]

def identifyBody (tag : Nat) (s : State) : State := ok ⟨tag, 0x01⟩ (identifyFields s) s

/-- IDENTIFY (R195). -/
def execIdentify (tag : Nat) (s : State) : Host.Outcome State Fault Refusal :=
  request (.identify tag) s (identifyBody tag)

/-- The fault record's fields, or all absent (R193, R194). -/
def faultFields (f : Option FaultRecord) : List Field :=
  [o1 (f.map (·.code)), o2 (f.map (·.tag)), o1 (f.map fun r => resultCode r.result),
   o1 (f.map fun r => detailCode r.detail), o4 (f.bind (·.object)), o1 (f.map fun r => r.clamped.toNat),
   o4 (f.map (·.instant))]

/-- What QUERY_FAULT returns (R194). A fault record kept through a power return (R199, R202) is given although no reply other
than OK has been made since that start-up, the model's reading of the three rules (log entry 79). -/
def queryFaultFields (s : State) : List Field :=
  faultFields s.link.fault ++
  [f2 s.link.nonOk, f2 s.link.discardLength, f2 s.link.discardGap, f2 s.link.discardCheck, f2 s.link.discardOverrun]

/-- The non-OK count and the four discard counts become 0 (R194). -/
def zeroCounts (s : State) : State :=
  putLink { s.link with
    nonOk := 0, discardLength := 0, discardGap := 0, discardCheck := 0, discardOverrun := 0 } s

def queryFaultBody (tag : Nat) (s : State) : State := zeroCounts (ok ⟨tag, 0x02⟩ (queryFaultFields s) s)

/-- QUERY_FAULT (R194). -/
def execQueryFault (tag : Nat) (s : State) : Host.Outcome State Fault Refusal :=
  request (.queryFault tag) s (queryFaultBody tag)

/-- The option table with a value written, or none where the value is outside the option's range (R196). -/
def writeOption (o : Options) (option value : Nat) : Option Options :=
  match option with
  | 0 => if value < 2 ^ 18 ∧ !value.testBit 1 ∧ !value.testBit 17
         then some { o with noticeMask := BitVec.ofNat 32 value } else none
  | 1 => if 1 ≤ value ∧ value ≤ 255 then some { o with idThreshold := value } else none
  | 2 => if value = 0 ∨ (30 ≤ value ∧ value ≤ 3600) then some { o with stationStandby := value } else none
  | 3 => if value ≤ 1 then some { o with keepOptionsOnRestart := decide (value = 1) } else none
  | _ => none

/-- The value of an option (R196). -/
def readOption (o : Options) (option : Nat) : Nat :=
  match option with
  | 0 => o.noticeMask.toNat
  | 1 => o.idThreshold
  | 2 => o.stationStandby
  | _ => o.keepOptionsOnRestart.toNat

def setOptionBody (tag option value : Nat) (s : State) : State :=
  let q : Req := ⟨tag, 0x03⟩
  if 3 < option then refuse q .badValue .unknownOption none s
  else
    match writeOption s.link.options option value with
    | none => refusePlain q .badValue s
    | some o => ok q [f4 (readOption o option)] (putLink { s.link with options := o } s)

/-- SET_OPTION (R196). -/
def execSetOption (tag option value : Nat) (s : State) : Host.Outcome State Fault Refusal :=
  request (.setOption tag option value) s (setOptionBody tag option value)

def getOptionBody (tag option : Nat) (s : State) : State :=
  let q : Req := ⟨tag, 0x04⟩
  if 3 < option then refuse q .badValue .unknownOption none s
  else ok q [f4 (readOption s.link.options option), f4 (readOption {} option)] s

/-- GET_OPTION (R196). -/
def execGetOption (tag option : Nat) (s : State) : Host.Outcome State Fault Refusal :=
  request (.getOption tag option) s (getOptionBody tag option)

def restartBody (tag : Nat) (s : State) : State :=
  let t := ok ⟨tag, 0x05⟩ [] s
  putLink { t.link with restart := .taken } t

/-- RESTART (R200): answered OK, and no further frame is handed over from this step on. -/
def execRestart (tag : Nat) (s : State) : Host.Outcome State Fault Refusal :=
  request (.restart tag) s (restartBody tag)

/-! ## The receiver (R187, R188) -/

/-- A frame is discarded and its cause counted: the length is out of range. -/
def discardLength (l : Link) : Link := { l with discardLength := bump l.discardLength }

/-- A complete frame is judged at its second check byte: it is placed in the receive buffer, or discarded with its cause
counted (R187, R188). -/
def placeFrame (body : List Byte) (check : BitVec 16) (l : Link) : Link :=
  if crc16 body ≠ check then { l with discardCheck := bump l.discardCheck }
  else if Config.bufferCount ≤ l.buffer.length then { l with discardOverrun := bump l.discardOverrun }
  else
    match parseBody body with
    | none => discardLength l
    | some f => { l with buffer := l.buffer ++ [f] }

/-- The value of a frame's length field, its first four bytes given (R184). -/
def lengthField (frame : List Byte) : Nat := fromBigEndian ((frame.drop 2).take 2)

/-- A length field outside 4 to 1,024 (R187). -/
def lengthOut (n : Nat) : Bool := decide (n < 4 ∨ 1024 < n)

/-- The bytes of a frame in assembly, one more than before, are judged: a bad length field discards the frame at its second
byte, the second check byte completes it, and after either the receiver hunts (R187). -/
def assemble (frame : List Byte) (l : Link) : Link :=
  if frame.length < 4 then { l with assembly := frame }
  else if lengthOut (lengthField frame) then discardLength { l with assembly := [] }
  else if frame.length < 6 + lengthField frame then { l with assembly := frame }
  else
    placeFrame ((frame.drop 4).take (lengthField frame))
      (BitVec.ofNat 16 (fromBigEndian (frame.drop (4 + lengthField frame)))) { l with assembly := [] }

/-- The receiver examines one byte: hunting, it begins a frame at C9h followed at once by 36h (R187). -/
def takeByte (b : Byte) (l : Link) : Link :=
  match l.assembly with
  | [] => if b = 0xC9 then { l with assembly := [b] } else l
  | [c] =>
    if b = 0x36 then { l with assembly := [c, b] }
    else if b = 0xC9 then { l with assembly := [b] }
    else { l with assembly := [] }
  | c :: d :: rest => assemble (c :: d :: rest ++ [b]) l

/-- The receiver examines bytes in their order (R187). -/
def takeBytes (bytes : List Byte) (l : Link) : Link := bytes.foldl (fun m b => takeByte b m) l

/-- FRAME_RECEIVED (R187, R188): the frames the bytes complete are judged, and bytes of no frame are passed over. -/
def execFrameReceived (bytes : List Byte) (check : BitVec 16) (s : State) : Host.Outcome State Fault Refusal :=
  event s fun t => putLink (takeBytes (bytes ++ bigEndian 2 check.toNat) t.link) t

/-- The receiver gives up the frame it assembles, if its two sync bytes have been found, and counts the gap (R187). -/
def giveUpFrame (l : Link) : Link :=
  if 2 ≤ l.assembly.length then { l with assembly := [], discardGap := bump l.discardGap }
  else { l with assembly := [] }

/-- FRAME_GAP_TIMEOUT (R187): hunting resumes at the byte that arrives after the gap, the first of the next command's. -/
def execFrameGapTimeout (s : State) : Host.Outcome State Fault Refusal :=
  event s fun t => putLink (giveUpFrame t.link) t

/-- The byte would be the second length byte of the frame in assembly, and its length lies outside 4 to 1,024. -/
def lengthDiscardDue (byte : Byte) (l : Link) : Bool :=
  decide (l.assembly.length = 3) && lengthOut (lengthField (l.assembly ++ [byte]))

/-- FRAME_LENGTH_DISCARD (R187): a length field below 4 or above 1,024 is found at the second length byte. -/
def execFrameLengthDiscard (byte : Byte) (s : State) : Host.Outcome State Fault Refusal :=
  eventWhen s (lengthDiscardDue byte s.link) fun t => putLink (takeByte byte t.link) t

/-- CTS is asserted while a place of the receive buffer is free (R188). -/
def ctsAsserted (s : State) : Bool := s.powered && decide (s.link.buffer.length < Config.bufferCount)

/-- The oldest buffered frame fails a test of R189: it leaves the buffer and is answered BAD_REQUEST. -/
def badRequestBody (s : State) : State :=
  match s.link.buffer with
  | [] => s
  | f :: _ =>
    match frameFailure f with
    | none => s
    | some d => if handOverOpen s then refuse ⟨f.tag, f.code⟩ .badRequest d none (popFrame s) else s

/-- BAD_REQUEST (R189). -/
def execBadRequest (s : State) : Host.Outcome State Fault Refusal := event s badRequestBody

/-! ## The transmitter (R192, R197, R200) -/

/-- The head notice leaves the queue as its sending begins, and NOTICES_LOST takes the freed place when notices were
lost (R192, R197). -/
def sendNotice (n : Notice) (rest : List Notice) (s : State) : State :=
  putLink { s.link with
    notices := rest ++ (if 0 < s.link.lost then [.noticesLost s.link.lost s.timer.clock] else [])
    lost := 0
    lastSent := some (.notice n) } s

/-- An ended run's record is removed as its reply is sent (R15, R145); a run still going keeps its record. -/
def releaseRun (r : Reply) (s : State) : State :=
  if r.long = false then s
  else if r.code = 0x14 then
    { s with seatMap := { s.seatMap with alloc := s.seatMap.alloc.filter fun x => !x.ended } }
  else if r.code = 0x73 then { s with coll := { s.coll with sweep := s.coll.sweep.filter fun x => !x.ended } }
  else s

/-- The export mark is cleared as the reply of its READ_SHEET is sent (R130). -/
def releaseExport (r : Reply) (s : State) : State :=
  match s.store.exporting with
  | none => s
  | some n =>
    if r.code = 0x64 then
      let t := putSlot n { slotOf s n with exportMark := false } s
      { t with store := { t.store with exporting := none } }
    else s

/-- The idle transmitter, RTS asserted, starts the oldest reply, else the head notice (R192). What stands until a reply is
sent goes as it leaves the list (R15, R130, R145). Once a RESTART has been taken no notice is sent, and once its reply is
being sent nothing more is started (R200). -/
def transmitBody (s : State) : State :=
  if s.link.restart = .sending then s
  else
    match s.link.replies with
    | r :: rest =>
      releaseExport r (releaseRun r (putLink { s.link with
        replies := rest
        restart := if s.link.restart = .taken ∧ r.code = 0x05 then .sending else s.link.restart
        lastSent := some (.reply r) } s))
    | [] =>
      if s.link.restart = .taken then s
      else
        match s.link.notices with
        | [] => s
        | n :: rest => sendNotice n rest s

/-- TRANSMIT_START (R192). -/
def execTransmitStart (rts : Bool) (s : State) : Host.Outcome State Fault Refusal := eventWhen s rts transmitBody

end Sys2Proof.Machine
end

