-- ==== Sys2Proof/Machine/CollectionUnit.lean ====
section
/-! DEFINITION. The Collection Unit: covers (R135 to R138), declarations from the host (R140), opening (R141), the sweep
(R142 to R145), ACCEPT_EXCEPTION (R148), bundles (R149 to R152) and the closing test they make (R153). -/

namespace Sys2Proof.Machine

/-! ## Covers -/

/-- The session that is not FREE and has a form code (R136, R165). -/
def sessionOfForm (s : State) (form : Nat) : Option Nat :=
  sessionSlots.find? fun k => decide ((sessionOf s k).state ≠ .free ∧ (sessionOf s k).form = form)

/-- Test 3 of R136 and test 2 of R167: the candidate's time is over, or why it is not. -/
inductive Standing where
  | over | early | notSat
  deriving DecidableEq, Repr

/-- How a candidate's state stands to its script (R136, R167). -/
def standing (st : CandState) : Standing :=
  match st with
  | .finished | .left | .collected => .over
  | .assigned | .present | .writing | .resting | .moving => .early
  | .listed | .absent | .withdrawn => .notSat

/-- Tests 3 to 6 of R136 for the candidate found. -/
def coverFailure (c : Candidate) (ordinal : Nat) : Option CoverReason :=
  match standing c.state with
  | .early => some .early
  | .notSat => some .notSat
  | .over =>
    if ¬(1 ≤ ordinal ∧ ordinal ≤ 9) then some .badOrdinal
    else if c.covers.contains ordinal then some .duplicate
    else if c.state = .collected then some .extraAfterCollection
    else none

/-- A cover is judged: its ordinal joins the received covers, or COVER_REFUSED is raised (R136). -/
def judgeCover (e : CoverEntry) (s : State) : State :=
  match sessionOfForm s e.form with
  | none => raise (.coverRefused .formUnknown e none none) s
  | some k =>
    match (candidateOf s e.candidate).filter (fun c => c.slot == k) with
    | none => raise (.coverRefused .idUnknown e (some k) none) s
    | some c =>
      match coverFailure c e.ordinal with
      | some r => raise (.coverRefused r e (some k) (some (c.state, c.declared))) s
      | none => putCandidate { c with covers := insertRising e.ordinal c.covers } s

def coverTakenBody (s : State) : State :=
  match s.coll.covers with
  | [] => s
  | e :: rest => putCovers rest (judgeCover e s)

/-- COVER_TAKEN (R135). -/
def execCoverTaken (s : State) : Host.Outcome State Fault Refusal := event s coverTakenBody

/-- A cover transfer is in progress (R138). -/
def coverTransfer (s : State) : Bool := s.reader.transfer.any fun t => t.slot.isNone

/-- The Cover Queue has no place for an entry from the host (R138). -/
def coversFull (s : State) : Bool :=
  decide (Config.coverCount ≤ s.coll.covers.length ∨
    (Config.coverCount ≤ s.coll.covers.length + 1 ∧ coverTransfer s = true))

def recordBookletBody (tag candidate ordinal form : Nat) (s : State) : State :=
  let q : Req := ⟨tag, 0x70⟩
  if ¬(candidateInRange candidate ∧ 1 ≤ ordinal ∧ ordinal ≤ 9) then refusePlain q .badValue s
  else if coversFull s then refusePlain q .full s
  else
    let entry : CoverEntry :=
      { candidate := candidate, ordinal := ordinal, form := form, source := none, appended := s.timer.clock }
    ok q [f1 (s.coll.covers.length + 1)] (putCovers (s.coll.covers ++ [entry]) s)

/-- RECORD_BOOKLET (R138). -/
def execRecordBooklet (tag candidate ordinal form : Nat) (s : State) : Host.Outcome State Fault Refusal :=
  request (.recordBooklet tag candidate ordinal form) s (recordBookletBody tag candidate ordinal form)

/-- A candidate is FINISHED or LEFT. -/
def awaitsCollection (c : Candidate) : Bool := decide (c.state = .finished ∨ c.state = .left)

def setDeclaredBody (tag candidate count : Nat) (s : State) : State :=
  let q : Req := ⟨tag, 0x71⟩
  if ¬(1 ≤ count ∧ count ≤ 9) then refusePlain q .badValue s
  else
    match candidateOf s candidate with
    | none => refusePlain q .notFound s
    | some c =>
      if ¬ awaitsCollection c then refusePlain q .wrongState s
      else ok q [.num 2 (setBits c.covers)] (putCandidate { c with declared := some count } s)

/-- SET_DECLARED (R140). -/
def execSetDeclared (tag candidate count : Nat) (s : State) : Host.Outcome State Fault Refusal :=
  request (.setDeclared tag candidate count) s (setDeclaredBody tag candidate count)

/-! ## Opening, bundles and collecting -/

def openCollectionBody (tag slot : Nat) (s : State) : State :=
  let q : Req := ⟨tag, 0x72⟩
  let x := sessionOf s slot
  if ¬ slot < Config.sessionCount then refusePlain q .badValue s
  else if ¬(x.state = .ended ∨ x.state = .void_) then refusePlain q .wrongState s
  else
    let t := closeIfSettled slot (enterSession slot x .collecting .collection s)
    ok q [f1 (sessionOf t slot).state.ctorIdx, f2 (countIn s slot .finished), f2 (countIn s slot .left)] t

/-- OPEN_COLLECTION (R141). -/
def execOpenCollection (tag slot : Nat) (s : State) : Host.Outcome State Fault Refusal :=
  request (.openCollection tag slot) s (openCollectionBody tag slot)

/-- Discrepancy reasons in the order of R144. -/
inductive Discrepancy where
  | undeclared | missing | extra | noSheet
  deriving DecidableEq, Repr

/-- The detail code of a discrepancy reason. -/
def discrepancyDetail : Discrepancy → Detail
  | .undeclared => .undeclared
  | .missing => .missing
  | .extra => .extra
  | .noSheet => .noSheet

/-- The first test of R144 a script fails, with the ordinal reported, or none when it is complete. -/
def scriptFailure (x : Session) (c : Candidate) : Option (Discrepancy × Option Nat) :=
  match c.declared with
  | none => some (.undeclared, none)
  | some d =>
    match ((List.range d).map (· + 1)).find? (fun n => !c.covers.contains n) with
    | some n => some (.missing, some n)
    | none =>
      match (c.covers.filter (fun n => decide (d < n))).min? with
      | some n => some (.extra, some n)
      | none => if x.sheetRequired && !c.sheetReceived then some (.noSheet, none) else none

/-- The lowest-numbered free bundle header (R150). -/
def freeHeader (s : State) : Option Nat := (List.range Config.bundleCount).find? fun h => (bundleOf s h).isNone

/-- The open bundle of a session with its header, if it has one. -/
def openBundle (s : State) (slot : Nat) : Option (Nat × Bundle) :=
  (openBundleOf s slot).bind fun h => (bundleOf s h).map fun b => (h, b)

/-- The header a collection of a session appends to: its open bundle's, or a free one to open (R150). -/
def headerFor (s : State) (slot : Nat) : Option Nat :=
  match openBundle s slot with
  | some p => some p.1
  | none => freeHeader s

/-- The open bundle a collection appends to, opened first when the session has none (R150). -/
def bundleToFill (s : State) (slot : Nat) : Bundle :=
  match openBundle s slot with
  | some p => p.2
  | none => { slot := slot, number := nextBundleOf s slot, isOpen := true, entries := [], opened := s.timer.clock }

/-- A candidate number is appended to the bundle under a header, which closes when it is full (R150). The next bundle
number goes on to 257 after a session's 256th bundle, the model's choice (R149, log entry 63). -/
def appendToBundle (slot h number : Nat) (s : State) : State :=
  let b := bundleToFill s slot
  let t := if (openBundle s slot).isSome then s
    else putNextBundle slot (b.number + 1) (putOpenBundle slot (some h) s)
  let t := putBundle h (some { b with entries := b.entries ++ [number] }) t
  if (sessionOf s slot).bundleSize ≤ b.entries.length + 1 then closeOpenBundle slot .size t else t

/-- A candidate is collected into the bundle under a header (R144, R148, R150, R153). -/
def collectNow (c : Candidate) (h : Nat) (exception : Bool) (s : State) : State :=
  let d := { unseated c with
    bundle := some (bundleToFill s c.slot).number, exception := c.exception || exception }
  closeIfSettled c.slot
    (freeSeatOf c (enterState d .collected .collection (appendToBundle c.slot h c.number s)))

/-! ## The sweep (R142 to R145) -/

/-- What COLLECT_SWEEP does (R142). While a sweep runs it is refused with BUSY (R146) only where the checks before that one pass,
the model's reading of the two rules (log entry 75). -/
def collectSweepBody (tag slot first count : Nat) (s : State) : State :=
  let q : Req := ⟨tag, 0x73⟩
  if ¬(slot < Config.sessionCount ∧ first < Config.seatCount ∧ 1 ≤ count ∧ count ≤ Config.seatCount ∧
      first + count ≤ Config.seatCount) then refusePlain q .badValue s
  else if (sessionOf s slot).state ≠ .collecting then refusePlain q .wrongState s
  else if s.coll.sweep.isSome then refusePlain q .busy s
  else putSweep (some { slot := slot, first := first, count := count, next := first, tag := tag }) s

/-- COLLECT_SWEEP (R142). -/
def execCollectSweep (tag slot first count : Nat) (s : State) : Host.Outcome State Fault Refusal :=
  request (.collectSweep tag slot first count) s (collectSweepBody tag slot first count)

/-- A sweep ends with OK (R145); its record stands until the reply is sent (log entry 47). The bundles closed are sent in 2
bytes, the model's choice (log entry 57). -/
def sweepDone (r : Sweep) (s : State) : State :=
  makeReply ⟨r.tag, 0x73⟩ .ok .none_ none
    [f2 r.swept, f2 r.collected, f2 r.bundlesClosed, o2 ((openBundle s r.slot).map fun p => p.2.number)] true
    (putSweep (some { r with ended := true }) s)

/-- The next seat counts as swept; the sweep ends when the seats swept reach its count (R143). -/
def sweepOn (r : Sweep) (s : State) : State :=
  let r' := { r with swept := r.swept + 1, next := r.next + 1 }
  if r'.count ≤ r'.swept then sweepDone r' s else putSweep (some r') s

/-- The seats not yet swept, the one at which the sweep ends included (R145). -/
def notSwept (r : Sweep) : Nat := r.first + r.count - r.next

/-- The candidate of a seat to check (R143). -/
def seatToCheck (s : State) (r : Sweep) : Option Candidate :=
  if (seatOf s r.next).state = .undefined then none
  else (namedAt s r.next).filter fun c => decide (c.slot = r.slot) && awaitsCollection c

/-- The candidate of a seat to check is collected, or the sweep ends at it (R144, R145). -/
def sweepCandidate (r : Sweep) (c : Candidate) (s : State) : State :=
  let q : Req := ⟨r.tag, 0x73⟩
  match scriptFailure (sessionOf s r.slot) c with
  | some (d, ordinal) =>
    makeReply q .discrepancy (discrepancyDetail d) (some r.next)
      [f2 r.next, f4 c.number, f1 d.ctorIdx, o1 ordinal, f2 (notSwept r), f2 r.collected, f2 r.bundlesClosed] true
      (putSweep (some { r with ended := true }) s)
  | none =>
    match headerFor s r.slot with
    | none =>
      makeReply q .full .bundleTableFull (some c.number)
        [f2 r.next, f4 c.number, f2 (notSwept r), f2 r.collected, f2 r.bundlesClosed] true
        (putSweep (some { r with ended := true }) s)
    | some h =>
      let filled := decide ((sessionOf s r.slot).bundleSize ≤ (bundleToFill s r.slot).entries.length + 1)
      sweepOn { r with collected := r.collected + 1, bundlesClosed := r.bundlesClosed + filled.toNat }
        (collectNow c h false s)

def sweepStepBody (s : State) : State :=
  match s.coll.sweep with
  | none => s
  | some r =>
    if r.ended then s
    else if (sessionOf s r.slot).state ≠ .collecting then sweepDone { r with swept := r.count } s
    else
      match seatToCheck s r with
      | none => sweepOn r s
      | some c => sweepCandidate r c s

/-- SWEEP_STEP (R143). -/
def execSweepStep (s : State) : Host.Outcome State Fault Refusal := event s sweepStepBody

def acceptExceptionBody (tag candidate : Nat) (s : State) : State :=
  let q : Req := ⟨tag, 0x74⟩
  if ¬ candidateInRange candidate then refusePlain q .badValue s
  else
    match candidateOf s candidate with
    | none => refusePlain q .notFound s
    | some c =>
      if ¬ awaitsCollection c then refusePlain q .wrongState s
      else if (sessionOf s c.slot).state ≠ .collecting then refuse q .wrongState .notCollecting none s
      else
        match headerFor s c.slot with
        | none => refuse q .full .bundleTableFull none s
        | some h =>
          let t := collectNow c h true s
          ok q [f2 (bundleToFill s c.slot).number, fb !((bundleOf t h).any (·.isOpen)),
            o1 ((scriptFailure (sessionOf s c.slot) c).map fun p => p.1.ctorIdx)] t

/-- ACCEPT_EXCEPTION (R148). -/
def execAcceptException (tag candidate : Nat) (s : State) : Host.Outcome State Fault Refusal :=
  request (.acceptException tag candidate) s (acceptExceptionBody tag candidate)

/-! ## Bundle requests (R151, R152) -/

def closeBundleBody (tag slot : Nat) (s : State) : State :=
  let q : Req := ⟨tag, 0x75⟩
  if ¬ slot < Config.sessionCount then refusePlain q .badValue s
  else
    match openBundle s slot with
    | none => refusePlain q .notFound s
    | some p => ok q [f2 p.2.number, f1 p.2.entries.length] (closeOpenBundle slot .host s)

/-- CLOSE_BUNDLE (R151). -/
def execCloseBundle (tag slot : Nat) (s : State) : Host.Outcome State Fault Refusal :=
  request (.closeBundle tag slot) s (closeBundleBody tag slot)

/-- The bundle of a session with a number. -/
def bundleNumbered (s : State) (slot number : Nat) : Option Bundle :=
  ((bundlesOf s slot).find? fun p => p.2.number == number).map (·.2)

/-- A bundle number of the table. -/
def bundleInRange (n : Nat) : Bool := 1 ≤ n && n ≤ Config.bundleCount

/-- Every field of a bundle (R149, R152). -/
def bundleFields (b : Bundle) : List Field :=
  [f1 b.slot, f2 b.number, f1 (if b.isOpen then 0 else 1), f1 b.entries.length] ++ b.entries.map f4 ++
  [f4 b.opened, o4 b.closed, o1 (b.closeCause.map (·.ctorIdx))]

def getBundleBody (tag slot number : Nat) (s : State) : State :=
  let q : Req := ⟨tag, 0x76⟩
  if ¬(slot < Config.sessionCount ∧ bundleInRange number) then refusePlain q .badValue s
  else
    match bundleNumbered s slot number with
    | none => refusePlain q .notFound s
    | some b => ok q (bundleFields b) s

/-- GET_BUNDLE (R152). -/
def execGetBundle (tag slot number : Nat) (s : State) : Host.Outcome State Fault Refusal :=
  request (.getBundle tag slot number) s (getBundleBody tag slot number)

/-- The bundles of a session in number order from a first number, up to 64 (R152). -/
def bundlePage (s : State) (slot first : Nat) : List Bundle :=
  (((List.range Config.bundleCount).map (· + 1)).filter (fun n => decide (first ≤ n))).filterMap
    (bundleNumbered s slot) |>.take 64

/-- How many COLLECTED candidates of a session carry EXCEPTION (R152). -/
def countExceptions (s : State) (slot : Nat) : Nat :=
  ((candidatesOf s slot).filter fun c => decide (c.state = .collected) && c.exception).length

/-- The session's own part of GET_COLLECTION (R152). -/
def collectionFields (s : State) (slot first : Nat) : List Field :=
  let x := sessionOf s slot
  let page := bundlePage s slot first
  [f1 x.bundleSize, fb x.sheetRequired, f2 (countIn s slot .finished), f2 (countIn s slot .left),
   f2 (countIn s slot .collected), f2 (countExceptions s slot),
   o2 ((openBundle s slot).map fun p => p.2.number), o1 ((openBundle s slot).map fun p => p.2.entries.length),
   f2 (nextBundleOf s slot), f1 page.length] ++
  page.flatMap fun b => [f2 b.number, f1 (if b.isOpen then 0 else 1), f1 b.entries.length]

/-- Every field of a Cover Queue entry; HOST is source 4 (R125, R152; log entry 15). -/
def coverFields (e : CoverEntry) : List Field :=
  [f4 e.candidate, f1 e.ordinal, f2 e.form, f1 (e.source.getD 4), f4 e.appended]

/-- The hall-wide parts of GET_COLLECTION (R152), the bundles closed in 2 bytes (log entry 57). -/
def hallCollectionFields (s : State) : List Field :=
  [f2 ((List.range Config.bundleCount).filter fun h => (bundleOf s h).isSome).length, f1 s.coll.covers.length] ++
  s.coll.covers.flatMap coverFields ++
  [o1 (s.coll.sweep.map (·.slot)), o2 (s.coll.sweep.map (·.first)), o2 (s.coll.sweep.map (·.count)),
   o2 (s.coll.sweep.map (·.next)), o2 (s.coll.sweep.map (·.swept)), o2 (s.coll.sweep.map (·.collected)),
   o2 (s.coll.sweep.map (·.bundlesClosed)), o2 (s.coll.sweep.map (·.tag))]

def getCollectionBody (tag slot first : Nat) (s : State) : State :=
  let q : Req := ⟨tag, 0x77⟩
  if ¬(slot < Config.sessionCount ∧ bundleInRange first) then refusePlain q .badValue s
  else ok q (f1 (sessionOf s slot).state.ctorIdx ::
    (if (sessionOf s slot).state = .free then [] else collectionFields s slot first) ++ hallCollectionFields s) s

/-- GET_COLLECTION (R152). -/
def execGetCollection (tag slot first : Nat) (s : State) : Host.Outcome State Fault Refusal :=
  request (.getCollection tag slot first) s (getCollectionBody tag slot first)

end Sys2Proof.Machine
end

