-- ==== Sys2Proof/Machine/StoreArbiter.lean ====
section
/-! DEFINITION. The store arbiter (R129): which of fill, marking and export is served next, and the row accesses that the
steps of the Marking Engine and of a READ_SHEET wait for (log entry 26). -/

namespace Sys2Proof.Machine

/-- A row access to the slot images: a fill writes, marking and export read (R129). -/
inductive Access where
  | fill
  | read (path : ReadPath)
  deriving DecidableEq, Repr

/-- The other of marking and export. -/
def otherPath : ReadPath → ReadPath
  | .marking => .export_
  | .export_ => .marking

/-- The access served next, of those that wait: a fill write first, then of marking and export the one that was not served
at the last access between the two (R129). -/
def nextAccess (fill marking export_ : Bool) (last : ReadPath) : Option Access :=
  if fill then some .fill
  else
    match marking, export_ with
    | true, true => some (.read (otherPath last))
    | true, false => some (.read .marking)
    | false, true => some (.read .export_)
    | false, false => none

/-- The rows that marking and export still wait for, and which of the two was served last. -/
structure Reads where
  marking : Nat
  export_ : Nat
  last : ReadPath
  deriving DecidableEq, Repr

/-- The rows a path still waits for. -/
def Reads.waiting (w : Reads) : ReadPath → Nat
  | .marking => w.marking
  | .export_ => w.export_

/-- One row is read, by the path the arbiter serves. A fill write is served in the step in which its row arrives, so none
waits between two reads. -/
def serveOne (w : Reads) : Reads :=
  match nextAccess false (decide (0 < w.marking)) (decide (0 < w.export_)) w.last with
  | some (.read .marking) => { w with marking := w.marking - 1, last := .marking }
  | some (.read .export_) => { w with export_ := w.export_ - 1, last := .export_ }
  | _ => w

/-- Rows are read, at most `fuel` of them, until a path waits for none. -/
def serveUntil (path : ReadPath) : (fuel : Nat) → Reads → Reads
  | 0, w => w
  | n + 1, w => if w.waiting path = 0 then w else serveUntil path n (serveOne w)

/-- The rows a sheet in flight needs in its phase: rows 0 to 9 unless its slot has an assigned identity, and for the scoring
the key's question rows after them (R164). -/
def rowsWanted (s : State) (r : InFlight) : Nat :=
  (if (slotOf s r.slot).assigned.isSome then 0 else 10) +
  match r.phase with
  | .identifying => 0
  | .scoring => ((r.session.bind fun k => (keyOf s k).questions).getD 0)

/-- The rows a READ_SHEET reads: up to its count, or to the last row of the sheet (R130). -/
def exportRows (j : ReadJob) : Nat := min j.count (j.rowCount - j.first)

/-- What marking and export wait for. -/
def readsWaiting (s : State) : Reads :=
  { marking := match s.marking.inFlight with
      | none => 0
      | some r => rowsWanted s r - r.rowsRead
    export_ := match s.store.readJob with
      | none => 0
      | some j => exportRows j - j.rowsRead
    last := s.store.lastServed }

/-- The rows read since are counted in the in-flight record and in the READ_SHEET, and the path served last is kept. -/
def recordReads (before after : Reads) (s : State) : State :=
  { s with
    store := { s.store with
      lastServed := after.last
      readJob := s.store.readJob.map fun j => { j with rowsRead := j.rowsRead + (before.export_ - after.export_) } }
    marking := { s.marking with
      inFlight := s.marking.inFlight.map fun r =>
        { r with rowsRead := r.rowsRead + (before.marking - after.marking) } } }

/-- The row accesses up to the end of a path's reads, the other path served in its turn while both wait (R129). -/
def serveReads (path : ReadPath) (s : State) : State :=
  let w := readsWaiting s
  recordReads w (serveUntil path (w.marking + w.export_) w) s

end Sys2Proof.Machine
end

