-- ==== Sys2Proof/Machine/MarkingEngine.lean ====
section
/-! DEFINITION. The Marking Engine: the key requests (R157 to R163), the take, identification and scoring of a sheet
(R164 to R175), results and responses (R176 to R179) and remarking (R180 to R182). -/

namespace Sys2Proof.Machine

/-! ## Answer keys -/

/-- The options of a set. -/
def options (marked : Byte) : List Nat := (List.range 8).filter fun k => marked.getLsbD k

/-- The entry of a question, or none while it is undefined (R158). -/
def questionOf (k : Key) (q : Nat) : Option Question := tableRead none k.entries q

/-- The question numbers of a key. -/
def questionNumbers (k : Key) : List Nat := (List.range (k.questions.getD 0)).map (· + 1)

/-- The number of questions defined. -/
def countDefined (k : Key) : Nat := ((questionNumbers k).filter fun q => (questionOf k q).isSome).length

/-- The lowest question still undefined, or none. -/
def lowestUndefined (k : Key) : Option Nat := (questionNumbers k).find? fun q => (questionOf k q).isNone

/-- A candidate of the session whose result has a status. -/
def hasResult (st : ResultStatus) (c : Candidate) : Bool := c.marks.any fun m => decide (m.status = st)

/-- How many candidates of a session have results of a status. -/
def countResults (s : State) (slot : Nat) (st : ResultStatus) : Nat :=
  ((candidatesOf s slot).filter (hasResult st)).length

/-- Every CURRENT result of a session becomes STALE (R160). -/
def makeStale (slot : Nat) (s : State) : State :=
  { s with roster := s.roster.map fun c =>
    if c.slot = slot then { c with marks := c.marks.map fun m => { m with status := .stale } } else c }

def beginKeyBody (tag slot questions policy floor : Nat) (tm tf : Option Nat) (s : State) : State :=
  let q : Req := ⟨tag, 0x80⟩
  let m := tm.getD 160
  let f := tf.getD 96
  match choosePolicy policy, chooseFlag floor with
  | some p, some fl =>
    if ¬(slot < Config.sessionCount ∧ 1 ≤ questions ∧ questions ≤ 200 ∧ 2 ≤ m ∧ m ≤ 255 ∧ 1 ≤ f ∧ f ≤ 255) then
      refusePlain q .badValue s
    else if m ≤ f then refuse q .badValue .thresholdOrder none s
    else if (sessionOf s slot).state = .free then refusePlain q .wrongState s
    else if formMarking s (sessionOf s slot).form then refuse q .busy .sheetMarking none s
    else if remarkOf s slot then refuse q .busy .remarkRunning none s
    else
      let t := putKey slot { keyOf s slot with
        state := .loading, questions := some questions, policy := p, floor := fl, markThreshold := m
        faintThreshold := f, entries := [] } s
      ok q [f2 (countResults s slot .current)] (makeStale slot t)
  | _, _ => refusePlain q .badValue s

/-- BEGIN_KEY (R160). -/
def execBeginKey (tag slot questions policy floor : Nat) (markThreshold faintThreshold : Option Nat) (s : State) :
    Host.Outcome State Fault Refusal :=
  request (.beginKey tag slot questions policy floor markThreshold faintThreshold) s
    (beginKeyBody tag slot questions policy floor markThreshold faintThreshold)

/-- The question an entry of KEY_PAGE defines, or none for a bad entry (R158, R161). -/
def entryQuestion (e : QuestionEntry) : Option Question :=
  if ¬(1 ≤ e.weight ∧ e.weight ≤ 40 ∧ e.penalty ≤ 40) then none
  else
    match chooseQuestionKind e.kind with
    | none => none
    | some k =>
      let n := (options e.correct).length
      let fits := match k with
        | .single => decide (n = 1)
        | .multi => decide (1 ≤ n)
        | .void_ => decide (n = 0)
      if fits then some { kind := k, correct := e.correct, weight := e.weight, penalty := e.penalty } else none

/-- The number of the first bad entry of a page, or none (R161). -/
def firstBadEntry : (question : Nat) → List QuestionEntry → Option Nat
  | _, [] => none
  | q, e :: es => if (entryQuestion e).isNone then some q else firstBadEntry (q + 1) es

/-- The entries of a page are written from a question on (R161). -/
def writeEntries : (question : Nat) → List QuestionEntry → Table (Option Question) → Table (Option Question)
  | _, [], t => t
  | q, e :: es, t => writeEntries (q + 1) es (tableWrite t q (entryQuestion e))

def keyPageBody (tag slot first count : Nat) (entries : List QuestionEntry) (s : State) : State :=
  let q : Req := ⟨tag, 0x81⟩
  let k := keyOf s slot
  if ¬(slot < Config.sessionCount ∧ oneByteCount count ≤ 25) then refusePlain q .badValue s
  else if k.state ≠ .loading then refusePlain q .wrongState s
  else if ¬(1 ≤ first ∧ first + oneByteCount count - 1 ≤ k.questions.getD 0) then
    refuse q .badValue .questionRange none s
  else
    match firstBadEntry first entries with
    | some n => refuse q .badValue .badEntry (some n) s
    | none =>
      let k' := { k with entries := writeEntries first entries k.entries }
      ok q [f1 (countDefined k'), o2 (lowestUndefined k')] (putKey slot k' s)

/-- KEY_PAGE (R161). -/
def execKeyPage (tag slot first count : Nat) (entries : List QuestionEntry) (s : State) :
    Host.Outcome State Fault Refusal :=
  request (.keyPage tag slot first count entries) s (keyPageBody tag slot first count entries)

/-- The generation after one: 255 is followed by 1 (R157). -/
def nextGeneration (g : Nat) : Nat := if 255 ≤ g then 1 else g + 1

/-- The slots HELD with NO_KEY that carry a form code, in slot number order (R162). -/
def noKeySlots (s : State) (form : Option Nat) : List Nat :=
  ((allSlots s).filter fun p =>
    decide (p.2.state = .held ∧ p.2.holdReason = some .noKey ∧ p.2.form.isSome ∧ p.2.form = form)).map (·.1)

/-- A held slot joins the tail of the marking queue again (R162). -/
def requeue (n : Nat) (s : State) : State :=
  let t := putSlot n { slotOf s n with state := .filled, holdReason := none } s
  putQueue (t.store.queue ++ [n]) t

def commitKeyBody (tag slot : Nat) (s : State) : State :=
  let q : Req := ⟨tag, 0x82⟩
  let k := keyOf s slot
  if ¬ slot < Config.sessionCount then refusePlain q .badValue s
  else if k.state ≠ .loading then refusePlain q .wrongState s
  else
    match lowestUndefined k with
    | some n => refuse q .badValue .questionMissing (some n) s
    | none =>
      let ns := noKeySlots s k.form
      let t := putKey slot { k with state := .ready, generation := nextGeneration k.generation } s
      ok q [f1 (nextGeneration k.generation), f1 ns.length, f2 (countResults s slot .stale)] (forEach ns requeue t)

/-- COMMIT_KEY (R162). -/
def execCommitKey (tag slot : Nat) (s : State) : Host.Outcome State Fault Refusal :=
  request (.commitKey tag slot) s (commitKeyBody tag slot)

/-- The fields of a question entry, all ones for an undefined one (R158, R163). -/
def questionFields (q : Option Question) : List Field :=
  [o1 (q.map (·.kind.ctorIdx)),
   match q with
   | none => o1 none
   | some x => .bytes [x.correct],
   o1 (q.map (·.weight)), o1 (q.map (·.penalty))]

/-- What GET_KEY returns (R163). Tm and Tf are sent in one byte each, the model's choice: R160 gives the two bytes for
BEGIN_KEY alone, where DEFAULT must be told apart from 255 (log entry 14). -/
def keyFields (s : State) (slot first count : Nat) : List Field :=
  let k := keyOf s slot
  if k.state = .empty then [f1 k.state.ctorIdx, o2 k.form, f1 k.generation]
  else
    let n := if first = 0 then 0 else min count (k.questions.getD 0 + 1 - first)
    [f1 k.state.ctorIdx, o2 k.form, o1 k.questions, f1 k.policy.ctorIdx, fb k.floor, f1 k.markThreshold,
     f1 k.faintThreshold, f1 k.generation, f1 (countDefined k), o2 (lowestUndefined k),
     f2 (countResults s slot .current), f2 (countResults s slot .stale), f1 n] ++
    (List.range n).flatMap fun i => questionFields (questionOf k (first + i))

def getKeyBody (tag slot first count : Nat) (s : State) : State :=
  let q : Req := ⟨tag, 0x83⟩
  if ¬(slot < Config.sessionCount ∧ count ≤ 25) then refusePlain q .badValue s
  else ok q (keyFields s slot first count) s

/-- GET_KEY (R163). -/
def execGetKey (tag slot first count : Nat) (s : State) : Host.Outcome State Fault Refusal :=
  request (.getKey tag slot first count) s (getKeyBody tag slot first count)

/-! ## Classification and scoring (R171 to R174) -/

/-- The marked set of a row under a mark threshold (R171). -/
def markedSet (tm : Nat) (row : List Byte) : Byte :=
  ((List.range 8).filter fun k => decide (tm ≤ (row.getD k 0).toNat)).foldl
    (fun acc k => acc ||| (BitVec.ofNat 8 (2 ^ k))) 0

/-- A bubble of the row is FAINT (R171). -/
def faintRow (tm tf : Nat) (row : List Byte) : Bool :=
  (List.range 8).any fun k => decide (tf ≤ (row.getD k 0).toNat ∧ (row.getD k 0).toNat < tm)

/-- The score and category of a marked set against a question (R172). -/
def scoreQuestion (policy : Policy) (q : Question) (marked : Byte) : Int × Category :=
  let n := (options marked).length
  match q.kind with
  | .void_ => (0, .void_)
  | .single =>
    if n = 0 then (0, .blank)
    else if n = 1 then if marked = q.correct then ((q.weight : Int), .correct) else (-(q.penalty : Int), .wrong)
    else
      match policy with
      | .wrong => (-(q.penalty : Int), .multi)
      | .blank => (0, .multi)
  | .multi =>
    if marked = q.correct then ((q.weight : Int), .correct)
    else if n = 0 then (0, .blank)
    else (-(q.penalty : Int), .wrong)

/-- A response entry scored under a key (R172). A question the key leaves undefined, which a READY key has none of, is
scored as a VOID one. -/
def scoreEntry (k : Key) (question : Nat) (marked : Byte) (faint : Bool) : Response :=
  match questionOf k question with
  | none => { marked := marked, faint := faint, category := .void_, score := 0 }
  | some q =>
    let r := scoreQuestion k.policy q marked
    { marked := marked, faint := faint, category := r.2, score := r.1 }

/-- The maximum m of a key (R173). -/
def keyMaximum (k : Key) : Nat :=
  (questionNumbers k).foldl (fun acc q =>
    match questionOf k q with
    | none => acc
    | some x => if x.kind = .void_ then acc else acc + x.weight) 0

/-- The total t of scored entries (R173). -/
def totalOf (k : Key) (es : List Response) : Int :=
  let t := es.foldl (fun acc e => acc + e.score) (0 : Int)
  if k.floor ∧ t < 0 then 0 else t

/-- The percent in tenths (R174). -/
def percentOf (t : Int) (m : Nat) : Nat := if m = 0 then 0 else (2000 * t.toNat + m) / (2 * m)

/-- How many entries are in a category. -/
def countCategory (es : List Response) (c : Category) : Nat := (es.filter fun e => decide (e.category = c)).length

/-- The result the first Q entries give under a key (R173, R174, R176). -/
def marksOf (k : Key) (es : List Response) (clock : Nat) (remarked : Bool) : Marks :=
  let faint := (es.filter (·.faint)).length
  { status := .current, generation := k.generation, total := totalOf k es, maximum := keyMaximum k
    percent := percentOf (totalOf k es) (keyMaximum k)
    correct := countCategory es .correct, wrong := countCategory es .wrong, blank := countCategory es .blank
    multi := countCategory es .multi, void_ := countCategory es .void_, faint := faint
    review := decide (1 ≤ faint), scored := clock, remarked := remarked }

/-! ## A sheet in the engine (R164 to R175) -/

def markingTakeBody (s : State) : State :=
  match s.marking.inFlight, s.store.queue with
  | none, n :: rest =>
    putInFlight (some { slot := n, phase := .identifying, identity := (slotOf s n).assigned })
      (putSlot n { slotOf s n with state := .marking } (putQueue rest s))
  | _, _ => s

/-- MARKING_TAKE (R164). -/
def execMarkingTake (s : State) : Host.Outcome State Fault Refusal := event s markingTakeBody

/-- The digit rows whose bubble of a position reads at or above the threshold (R166). -/
def digitRows (image : List (List Byte)) (threshold position : Nat) : List Nat :=
  (List.range 10).filter fun r => decide (threshold ≤ ((image.getD r []).getD position 0).toNat)

/-- What decoding the candidate-number grid gives (R166). -/
inductive Decoded where
  | number (n : Nat)
  | unreadable (why : Unreadable)
  deriving DecidableEq, Repr

/-- The digits from a position on, appended to the number read so far (R166). -/
def decodeFrom (image : List (List Byte)) (threshold : Nat) : (count position sofar : Nat) → Decoded
  | 0, _, n => if n = 0 then .unreadable .zeroNumber else .number n
  | k + 1, p, n =>
    match digitRows image threshold p with
    | [r] => decodeFrom image threshold k (p + 1) (n * 10 + r)
    | [] => .unreadable (.noRow p)
    | _ => .unreadable (.severalRows p)

/-- The candidate number is decoded from rows 0 to 9 (R166). -/
def decodeNumber (image : List (List Byte)) (threshold : Nat) : Decoded := decodeFrom image threshold 8 0 0

/-- What the notice of a hold carries beyond the slot's own fields (R170). -/
structure HoldReport where
  session : Option Nat := none
  /-- The identity judged, with whether it was assigned. -/
  identity : Option (Nat × Bool) := none
  unreadable : Option Unreadable := none
  shortage : Option (Nat × Nat) := none
  deriving DecidableEq, Repr

/-- The sheet in a slot is held (R170). Its receipt stands whenever the slot holds a receipt candidate, also one whose record
CLEAR_SESSION has removed, the model's choice (log entry 70). -/
def holdSheet (n : Nat) (reason : HoldReason) (h : HoldReport) (s : State) : State :=
  let x := slotOf s n
  raise (.sheetHeld n x.form reason h.session h.identity x.receipt.isSome h.unreadable h.shortage)
    (putInFlight none (putSlot n { x with state := .held, holdReason := some reason } s))

/-- The first of tests 1 to 3 of R167 an identity fails, or the candidate it names. -/
def judgeIdentity (s : State) (slot session identity : Nat) : HoldReason ⊕ Candidate :=
  match (candidateOf s identity).filter (fun c => c.slot == session) with
  | none => .inl .idUnknown
  | some c =>
    match standing c.state with
    | .early => .inl .early
    | .notSat => .inl .notSat
    | .over =>
      if c.sheetReceived = false ∨ (slotOf s slot).receipt = some c.number then .inr c else .inl .duplicate

/-- The receipt of a sheet (R168). It takes the place of a receipt candidate that the slot already holds, as where a requeued
sheet now decodes to another candidate: the model's choice between R168, which sets it, and R127, by which it stays until
the slot is FREE (log entry 78). -/
def giveReceipt (n : Nat) (c : Candidate) (s : State) : State :=
  if c.sheetReceived then s
  else putSlot n { slotOf s n with receipt := some c.number } (putCandidate { c with sheetReceived := true } s)

/-- After the receipt the key is checked, and the sheet goes on to its scoring or is held (R169). -/
def checkKey (r : InFlight) (session : Nat) (identity : Nat × Bool) (s : State) : State :=
  let k := keyOf s session
  let report : HoldReport := { session := some session, identity := some identity }
  let rows := (slotOf s r.slot).rowCount.getD 0
  let q := k.questions.getD 0
  if k.state ≠ .ready then holdSheet r.slot .noKey report s
  else if rows < 10 + q then holdSheet r.slot .shortSheet { report with shortage := some (rows - 10, q) } s
  else
    putInFlight (some { r with
      phase := .scoring, identity := some identity.1, session := some session, generation := some k.generation }) s

/-- An identity is judged against the roster, and its receipt and key follow (R167 to R169). -/
def identify (r : InFlight) (session : Nat) (identity : Nat × Bool) (s : State) : State :=
  match judgeIdentity s r.slot session identity.1 with
  | .inl reason => holdSheet r.slot reason { session := some session, identity := some identity } s
  | .inr c => checkKey r session identity (giveReceipt r.slot c s)

/-- The identification of the sheet in flight (R165 to R170). Rows 0 to 9 have been read through the store arbiter, unless
the slot has an assigned identity (R129, R164). -/
def identificationBody (s : State) : State :=
  match s.marking.inFlight with
  | none => s
  | some r =>
    if r.phase = .identifying then
      let x := slotOf s r.slot
      let r' := { r with rowsRead := max r.rowsRead (rowsWanted s r) }
      let t := serveReads .marking s
      match x.form.bind (sessionOfForm s) with
      | none => holdSheet r.slot .formUnknown {} t
      | some k =>
        match x.assigned with
        | some n => identify r' k (n, true) t
        | none =>
          match decodeNumber x.image s.link.options.idThreshold with
          | .unreadable why =>
            holdSheet r.slot .idUnreadable { session := some k, unreadable := some why }
              (putSlot r.slot { x with decoded := none } t)
          | .number n => identify r' k (n, false) (putSlot r.slot { x with decoded := some n } t)
    else s

/-- IDENTIFICATION (R165). -/
def execIdentification (s : State) : Host.Outcome State Fault Refusal := event s identificationBody

/-- The response entries the question rows of a sheet give under a key (R171, R172, R177). -/
def sheetResponses (k : Key) (image : List (List Byte)) : List Response :=
  (questionNumbers k).map fun q =>
    let row := image.getD (9 + q) []
    scoreEntry k q (markedSet k.markThreshold row) (faintRow k.markThreshold k.faintThreshold row)

/-- The scoring of the sheet in flight, its question rows read through the store arbiter (R129, R164, R171 to R175).
SHEET_MARKED carries the fields R175 lists and none for the receipt, the model's choice (R168, log entry 69). -/
def scoringBody (s : State) : State :=
  match s.marking.inFlight with
  | none => s
  | some r =>
    match r.phase, r.identity, r.session, r.generation with
    | .scoring, some number, some k, some g =>
      let key := keyOf s k
      let es := sheetResponses key (slotOf s r.slot).image
      let m := { marksOf key es s.timer.clock false with generation := g }
      let t := match candidateOf s number with
        | none => serveReads .marking s
        | some c => putCandidate { c with marks := some m, responses := some es } (serveReads .marking s)
      raise (.sheetMarked number k r.slot g m.total m.maximum m.percent m.review)
        (putInFlight none (freeSlot r.slot t))
    | _, _, _, _ => s

/-- SCORING (R175). -/
def execScoring (s : State) : Host.Outcome State Fault Refusal := event s scoringBody

/-! ## Results and responses (R178, R179) -/

/-- The HELD slots that concern a candidate, with their reasons, up to four: those with the lowest numbers (R178, log
entry 64). -/
def heldFor (s : State) (number : Nat) : List (Nat × Option HoldReason) :=
  (((allSlots s).filter fun p => decide (p.2.state = .held ∧
    (p.2.receipt = some number ∨ p.2.decoded = some number ∨ p.2.assigned = some number))).map
      fun p => (p.1, p.2.holdReason)).take 4

/-- What GET_RESULT returns (R178). -/
def resultFields (s : State) (c : Candidate) : List Field :=
  [f1 c.slot, f1 c.state.ctorIdx, fb c.sheetReceived] ++ marksFields c.marks ++
  [o1 (c.responses.map (·.length)), fb !(heldFor s c.number).isEmpty, f1 (heldFor s c.number).length] ++
  (heldFor s c.number).flatMap fun p => [f1 p.1, o1 (p.2.map (·.ctorIdx))]

def getResultBody (tag candidate : Nat) (s : State) : State :=
  let q : Req := ⟨tag, 0x85⟩
  if ¬ candidateInRange candidate then refusePlain q .badValue s
  else
    match candidateOf s candidate with
    | none => refusePlain q .notFound s
    | some c => ok q (resultFields s c) s

/-- GET_RESULT (R178). -/
def execGetResult (tag candidate : Nat) (s : State) : Host.Outcome State Fault Refusal :=
  request (.getResult tag candidate) s (getResultBody tag candidate)

/-- Response entries from a question on, each with its question number (R179). -/
def numberedResponses : (question : Nat) → List Response → List Field
  | _, [] => []
  | q, e :: es => f2 q :: responseFields e ++ numberedResponses (q + 1) es

def getResponsesBody (tag candidate first count : Nat) (s : State) : State :=
  let q : Req := ⟨tag, 0x86⟩
  if ¬(candidateInRange candidate ∧ oneByteCount count ≤ 50) then refusePlain q .badValue s
  else
    match candidateOf s candidate with
    | none => refusePlain q .notFound s
    | some c =>
      match c.responses with
      | none => refuse q .notFound .noResponses none s
      | some es =>
        if ¬(1 ≤ first ∧ first ≤ es.length) then refuse q .badValue .questionRange none s
        else
          let page := (es.drop (first - 1)).take (oneByteCount count)
          ok q (f1 page.length :: numberedResponses first page ++
            [o1 (c.marks.map (·.status.ctorIdx)), o1 (c.marks.map (·.generation))]) s

/-- GET_RESPONSES (R179). -/
def execGetResponses (tag candidate first count : Nat) (s : State) : Host.Outcome State Fault Refusal :=
  request (.getResponses tag candidate first count) s (getResponsesBody tag candidate first count)

/-! ## Remarking (R180 to R182) -/

/-- The run's next candidate with its place in the roster (R181). -/
def remarkNext (s : State) (r : Remark) : Option (Nat × Candidate) :=
  nextFrom (fun c => c.slot == r.slot) r.position 0 s.roster

/-- A run completes with OK (R182). -/
def remarkDone (r : Remark) (s : State) : State :=
  makeReply ⟨r.tag, 0x84⟩ .ok .none_ none [f2 r.remarked, f2 r.short, f1 r.generation] true (putRemark none s)

/-- The three checks of REMARK in their order, and the run they begin or complete at once (R180). While a REMARK runs it is
refused with BUSY (R182) only where the checks before that one pass, the model's reading of the two rules (log entry 75). -/
def remarkBody (tag slot : Nat) (s : State) : State :=
  let q : Req := ⟨tag, 0x84⟩
  if ¬ slot < Config.sessionCount then refusePlain q .badValue s
  else if (sessionOf s slot).state = .free ∨ (keyOf s slot).state ≠ .ready then refusePlain q .wrongState s
  else if s.marking.remark.isSome then refusePlain q .busy s
  else
    let r : Remark := { slot := slot, generation := (keyOf s slot).generation, tag := tag }
    if (candidatesOf s slot).all (·.responses.isNone) then remarkDone r s else putRemark (some r) s

/-- REMARK (R180). -/
def execRemark (tag slot : Nat) (s : State) : Host.Outcome State Fault Refusal :=
  request (.remark tag slot) s (remarkBody tag slot)

/-- A record's entries with questions 1 to Q scored afresh under a key (R181). -/
def rescored (k : Key) (es : List Response) : List Response :=
  let n := k.questions.getD 0
  (List.range n).map (fun i =>
    match es[i]? with
    | none => scoreEntry k (i + 1) 0 false
    | some e => scoreEntry k (i + 1) e.marked e.faint) ++ es.drop n

/-- A step's candidate is rescored, left short, or passed over (R181). -/
def remarkCandidate (r : Remark) (c : Candidate) (s : State) : Remark × State :=
  let k := keyOf s r.slot
  let n := k.questions.getD 0
  match c.responses with
  | none => (r, s)
  | some es =>
    if n ≤ es.length then
      let es' := rescored k es
      ({ r with remarked := r.remarked + 1 },
        putCandidate { c with responses := some es', marks := some (marksOf k (es'.take n) s.timer.clock true) } s)
    else ({ r with short := r.short + 1 }, s)

def remarkStepBody (s : State) : State :=
  match s.marking.remark with
  | none => s
  | some r =>
    match remarkNext s r with
    | none => remarkDone r s
    | some (place, c) =>
      let p := remarkCandidate r c s
      let r' := { p.1 with position := place + 1 }
      if (remarkNext p.2 r').isNone then remarkDone r' p.2 else putRemark (some r') p.2

/-- REMARK_STEP (R181, R182). -/
def execRemarkStep (s : State) : Host.Outcome State Fault Refusal := event s remarkStepBody

end Sys2Proof.Machine
end

