-- ==== Sys2Proof/Machine/Reader.lean ====
section
/-! DEFINITION. The Reader Port and the Sheet Store: the station requests (R115, R117, R119), the port arbiter (R120),
sheet and cover transfers (R121 to R125), the stations' events (R116 to R118), and the store's requests (R130 to
R133). -/

namespace Sys2Proof.Machine

/-! ## Stations -/

/-- A station enters a state: STATION_STATE is raised (R114). `y` is its record after the change, its state apart. -/
def enterStation (station : Nat) (y : Station) (new : StationState) (cause : StationCause)
    (moved : Option (Option Nat × Nat)) (s : State) : State :=
  raise (.stationState station y.kind (stationOf s station).state new cause s.timer.clock moved)
    (putStation station { y with state := new } s)

/-- A station's record as it is sent the wake command and starts its 4 s warm-up (R115, R117). -/
def warmed (x : Station) : Station := { x with warmTimer := 4, lastCommand := some .wake }

/-- A standby time CONFIGURE_STATION stores: a value in its range, or the option's for DEFAULT (R115). -/
def standbyChoice (s : State) (standby : Option Nat) : Option Nat :=
  match standby with
  | none => some s.link.options.stationStandby
  | some n => if n = 0 ∨ (30 ≤ n ∧ n ≤ 3600) then some n else none

def configureStationBody (tag station kind : Nat) (standby : Option Nat) (s : State) : State :=
  let q : Req := ⟨tag, 0x60⟩
  match chooseStationKind kind, standbyChoice s standby with
  | some k, some b =>
    if ¬ station < Config.stationCount then refusePlain q .badValue s
    else
      let x := stationOf s station
      if x.state = .transferring then refusePlain q .busy s
      else
        let y := warmed { x with kind := k, standby := b, checkFailures := 0, idleTimer := 0 }
        ok q [] (if x.state = .warming then putStation station y s
          else enterStation station y .warming .configure none s)
  | _, _ => refusePlain q .badValue s

/-- CONFIGURE_STATION (R115). -/
def execConfigureStation (tag station kind : Nat) (standby : Option Nat) (s : State) :
    Host.Outcome State Fault Refusal :=
  request (.configureStation tag station kind standby) s (configureStationBody tag station kind standby)

/-- A station is switched OFF (R115); the warm-up timer goes to 0, the model's choice (log entry 60). -/
def stationOffBody (tag station : Nat) (s : State) : State :=
  let q : Req := ⟨tag, 0x61⟩
  let x := stationOf s station
  if ¬ station < Config.stationCount then refusePlain q .badValue s
  else if x.state = .transferring then refusePlain q .busy s
  else if x.state = .off then ok q [] s
  else ok q [] (enterStation station { x with warmTimer := 0, lastCommand := some .standby } .off .off none s)

/-- STATION_OFF (R115). -/
def execStationOff (tag station : Nat) (s : State) : Host.Outcome State Fault Refusal :=
  request (.stationOff tag station) s (stationOffBody tag station)

/-- A STANDBY station is woken (R117); `x` is its record before. -/
def wakeNow (station : Nat) (x : Station) (s : State) : State := enterStation station (warmed x) .warming .wake none s

/-- WAKE_STATION sets the idle timer of a STANDBY station to 0 (R116) and of a WARMING or TRANSFERRING one nothing (R117),
the model's reading of the two (log entry 62). -/
def wakeStationBody (tag station : Nat) (s : State) : State :=
  let q : Req := ⟨tag, 0x62⟩
  if ¬ station < Config.stationCount then refusePlain q .badValue s
  else
    match (stationOf s station).state with
    | .standby => ok q [] (wakeNow station { stationOf s station with idleTimer := 0 } s)
    | .idle => ok q [] (putStation station { stationOf s station with idleTimer := 0 } s)
    | .warming | .transferring => ok q [] s
    | .off | .fault => refusePlain q .wrongState s

/-- WAKE_STATION (R117). -/
def execWakeStation (tag station : Nat) (s : State) : Host.Outcome State Fault Refusal :=
  request (.wakeStation tag station) s (wakeStationBody tag station)

/-- The lowest-numbered slot that is FREE and not marked for export (R120, R121). -/
def openableSlot (s : State) : Option Nat :=
  ((allSlots s).find? fun p => decide (p.2.state = .free) && !p.2.exportMark).map (·.1)

/-- Room for what a station's kind transfers (R120). -/
def roomFor (s : State) (kind : StationKind) : Bool :=
  match kind with
  | .sheet => (openableSlot s).isSome
  | .cover => decide (s.coll.covers.length < Config.coverCount)

/-- A station is eligible for a grant (R120). -/
def grantable (s : State) (station : Nat) : Bool :=
  let x := stationOf s station
  decide (x.state = .idle) && x.request && roomFor s x.kind

/-- The reason a waiting station's grant is withheld, STORE_FULL or QUEUE_FULL by its number, or none (R119). -/
def withheld (s : State) (station : Nat) : Option Nat :=
  let x := stationOf s station
  if x.state = .idle ∧ x.request = true ∧ roomFor s x.kind = false then some x.kind.ctorIdx else none

/-- What GET_STATIONS returns of a station's transfer, absent while it holds none (R119). The milliseconds are absent while
the ready line is high (log entry 71), and the row count and the rows moved take 2 bytes (log entry 14): the model's choices. -/
def transferFields (s : State) (station : Nat) : List Field :=
  match s.reader.transfer.filter (fun t => t.station == station) with
  | none => [o1 none, o2 none, o2 none, o1 none, o2 none]
  | some t =>
    [o1 t.slot, o2 (t.slot.bind fun n => (slotOf s n).rowCount),
     o2 (some (match t.slot with
       | none => 0
       | some n => (slotOf s n).rowsFilled)),
     o1 (some (readyIsLow s station).toNat), o2 (if readyIsLow s station then some (readyLowReading s.fresh) else none)]

/-- What GET_STATIONS returns of one station (R119). Whether it waits for a withheld grant, and why, is one optional byte, the
model's choice (log entry 54). -/
def stationFields (s : State) (station : Nat) : List Field :=
  let x := stationOf s station
  [f1 x.kind.ctorIdx, f1 x.state.ctorIdx, f2 x.standby, f2 x.idleTimer, f2 x.warmTimer, fb x.request,
   f1 x.checkFailures, o1 (x.lastEnd.map (·.ctorIdx)), o1 (withheld s station)] ++ transferFields s station

def getStationsBody (tag : Nat) (s : State) : State :=
  ok ⟨tag, 0x63⟩ ((List.range Config.stationCount).flatMap (stationFields s) ++ [o1 s.reader.lastGranted])
    { s with fresh := s.fresh + 1 }

/-- GET_STATIONS (R119). The milliseconds of a low ready line are a free value (log entry 4). -/
def execGetStations (tag : Nat) (s : State) : Host.Outcome State Fault Refusal :=
  request (.getStations tag) s (getStationsBody tag)

/-- The stations' request lines: an OFF station's are ignored, and a raised one keeps an IDLE station's idle timer at 0
(R114, R116). -/
def stationRequestBody (station : Nat) (raised : Bool) (s : State) : State :=
  let x := stationOf s station
  if x.state = .off then s
  else
    putStation station { x with
      request := raised
      idleTimer := if raised ∧ x.state = .idle then 0 else x.idleTimer } s

/-- STATION_REQUEST (R114, R120). -/
def execStationRequest (station : Nat) (raised : Bool) (s : State) : Host.Outcome State Fault Refusal :=
  event s (stationRequestBody station raised)

/-- WARM_DONE (R116): the warm-up timer has run out. -/
def execWarmDone (station : Nat) (s : State) : Host.Outcome State Fault Refusal :=
  eventWhen s (decide ((stationOf s station).state = .warming ∧ (stationOf s station).warmTimer = 0)) fun t =>
    enterStation station { stationOf t station with warmTimer := 0, idleTimer := 0 } .idle .warmDone none t

/-- IDLE_TIMEOUT (R116): the idle timer has reached a nonzero standby time, no request standing. -/
def execIdleTimeout (station : Nat) (s : State) : Host.Outcome State Fault Refusal :=
  let x := stationOf s station
  eventWhen s (decide (x.state = .idle ∧ x.standby ≠ 0 ∧ x.request = false ∧ x.standby ≤ x.idleTimer)) fun t =>
    enterStation station { stationOf t station with lastCommand := some .standby } .standby .idleTimeout none t

/-- FEED_WAKE (R117): ignored but from a STANDBY station. It leaves the idle timer as it stands until the station is IDLE,
the model's reading of R116 (log entry 62). -/
def execFeedWake (station : Nat) (s : State) : Host.Outcome State Fault Refusal :=
  eventWhen s (decide ((stationOf s station).state = .standby)) (wakeNow station (stationOf s station))

/-! ## Transfers -/

/-- The stations in the order the arbiter examines them (R120). -/
def grantOrder (last : Option Nat) : List Nat :=
  match last with
  | none => [0, 1, 2, 3]
  | some n => (List.range Config.stationCount).map fun i => (n + 1 + i) % Config.stationCount

/-- A slot as a grant opens it for a station (R121). -/
def openedSlot (x : Slot) (station : Nat) : Slot :=
  { state := .filling, image := x.image, source := some station, exportMark := x.exportMark }

/-- A station is granted (R120, R121). -/
def grantTo (station : Nat) (s : State) : State :=
  let x := stationOf s station
  let slot := match x.kind with
    | .sheet => openableSlot s
    | .cover => none
  let t := putStation station { x with state := .transferring } s
  let t := match slot with
    | none => t
    | some n => putSlot n (openedSlot (slotOf t n) station) t
  { t with reader := { t.reader with
      lastGranted := some station, transfer := some { station := station, slot := slot } } }

def portGrantBody (s : State) : State :=
  if s.reader.transfer.isSome then s
  else
    match (grantOrder s.reader.lastGranted).find? (grantable s) with
    | none => s
    | some k => grantTo k s

/-- PORT_GRANT (R120, R121). The step that ends a transfer grants too (R122 to R125); wherever else R120 has the arbiter
grant, this command is that grant (log entry 49). -/
def execPortGrant (s : State) : Host.Outcome State Fault Refusal := event s portGrantBody

/-- The slot and rows a STATION_STATE notice carries for an unfinished transfer (R114). -/
def movedOf (s : State) (t : Transfer) : Option (Option Nat × Nat) :=
  some (t.slot, match t.slot with
    | none => 0
    | some n => (slotOf s n).rowsFilled)

/-- The grant is removed and the slot opened for a sheet returns to FREE (R123, R124). -/
def dropTransfer (t : Transfer) (s : State) : State :=
  let u := putTransfer none s
  match t.slot with
  | none => u
  | some n => freeSlot n u

/-- A transfer breaks off: its station takes a state and a last end, STATION_STATE is raised, and the arbiter grants again
(R121, R123, R124). -/
def breakOff (t : Transfer) (y : Station) (new : StationState) (cause : StationCause) (s : State) : State :=
  portGrantBody (enterStation t.station y new cause (movedOf s t) (dropTransfer t s))

/-- A transfer ends on a failed check (R124). -/
def failCheck (t : Transfer) (s : State) : State :=
  let x := stationOf s t.station
  let y := { x with checkFailures := min 3 (x.checkFailures + 1), lastEnd := some .check }
  if y.checkFailures < 3 then breakOff t { y with idleTimer := 0 } .idle .check s
  else breakOff t y .fault .check s

/-- A transfer completes: the grant is removed, the station is IDLE with last end DONE, and the arbiter grants again (R120,
R122, R125). -/
def completeTransfer (t : Transfer) (s : State) : State :=
  portGrantBody (putStation t.station { stationOf s t.station with
    state := .idle, lastEnd := some .done, idleTimer := 0, checkFailures := 0 } (putTransfer none s))

/-- The check byte of some bytes makes their sum 0 (R121, R125, R126). -/
def checked (n : Nat) (bytes : List Byte) : Bool := bytes.length == n && sum8 bytes == 0

/-- A header arrives (R121). -/
def takeHeader (t : Transfer) (n : Nat) (bytes : List Byte) (s : State) : State :=
  if checked 5 bytes then
    let form := fromBigEndian (bytes.take 2)
    let rows := fromBigEndian ((bytes.drop 2).take 2)
    if 11 ≤ rows ∧ rows ≤ 210 then
      putSlot n { slotOf s n with form := some form, rowCount := some rows }
        (putTransfer (some { t with headerTaken := true }) s)
    else breakOff t { stationOf s t.station with lastEnd := some .header } .fault .header s
  else failCheck t s

def sheetHeaderBody (station : Nat) (bytes : List Byte) (s : State) : State :=
  match s.reader.transfer with
  | none => s
  | some t =>
    match t.slot with
    | none => s
    | some n => if t.station = station ∧ t.headerTaken = false then takeHeader t n bytes s else s

/-- SHEET_HEADER (R121). -/
def execSheetHeader (station : Nat) (bytes : List Byte) (s : State) : Host.Outcome State Fault Refusal :=
  event s (sheetHeaderBody station bytes)

/-- An image with a row written at its position (R122). -/
def writeRow (image : List (List Byte)) (k : Nat) (row : List Byte) : List (List Byte) :=
  image.take k ++ row :: image.drop (k + 1)

/-- The slot a sheet fills becomes FILLED at the tail of the marking queue, and the transfer completes (R122, R128). -/
def completeFill (t : Transfer) (n : Nat) (s : State) : State :=
  let u := putSlot n { slotOf s n with state := .filled, fillInstant := some s.timer.clock } s
  completeTransfer t (putQueue (u.store.queue ++ [n]) u)

/-- A row moves from the station (R122). -/
def takeRow (t : Transfer) (n : Nat) (bytes : List Byte) (s : State) : State :=
  if checked 9 bytes then
    let x := slotOf s n
    let u := putSlot n { x with
      image := writeRow x.image x.rowsFilled (bytes.take 8), rowsFilled := x.rowsFilled + 1 } s
    if x.rowCount.getD 0 ≤ x.rowsFilled + 1 then completeFill t n u else u
  else failCheck t s

/-- A cover record moves from the station (R125). -/
def takeCover (t : Transfer) (bytes : List Byte) (s : State) : State :=
  if checked 8 bytes then
    let entry : CoverEntry :=
      { candidate := fromBigEndian (bytes.take 4), ordinal := fromBigEndian ((bytes.drop 4).take 1)
        form := fromBigEndian ((bytes.drop 5).take 2), source := some t.station, appended := s.timer.clock }
    completeTransfer t (putCovers (s.coll.covers ++ [entry]) s)
  else failCheck t s

/-- A row or a cover record moves now, the ready line being high. -/
def moveItem (t : Transfer) (bytes : List Byte) (s : State) : State :=
  match t.slot with
  | some n => takeRow t n bytes s
  | none => takeCover t bytes s

/-- A row or cover record is offered by the granted station: it moves, or is held back while ready is low (R122, R125). -/
def offerItem (t : Transfer) (bytes : List Byte) (s : State) : State :=
  if readyIsLow s t.station then
    if t.held.isSome then s else putTransfer (some { t with held := some bytes }) s
  else moveItem t bytes s

def sheetRowBody (station : Nat) (bytes : List Byte) (s : State) : State :=
  match s.reader.transfer with
  | none => s
  | some t => if t.station = station ∧ t.slot.isSome ∧ t.headerTaken = true then offerItem t bytes s else s

/-- SHEET_ROW (R122). -/
def execSheetRow (station : Nat) (bytes : List Byte) (s : State) : Host.Outcome State Fault Refusal :=
  event s (sheetRowBody station bytes)

def coverRecordBody (station : Nat) (bytes : List Byte) (s : State) : State :=
  match s.reader.transfer with
  | none => s
  | some t => if t.station = station ∧ t.slot = none then offerItem t bytes s else s

/-- COVER_RECORD (R125). -/
def execCoverRecord (station : Nat) (bytes : List Byte) (s : State) : Host.Outcome State Fault Refusal :=
  event s (coverRecordBody station bytes)

/-- The granted station's ready line has risen: what was held back moves (R122, R123). -/
def releaseItem (t : Transfer) (s : State) : State :=
  match t.held with
  | none => s
  | some bytes => moveItem { t with held := none } bytes (putTransfer (some { t with held := none }) s)

/-- A station's ready line falls or rises (R122, R123). The level of every station's line is kept, so that a line already low
at the grant is low from the grant on (log entry 34). -/
def readyChangeBody (station : Nat) (high : Bool) (s : State) : State :=
  let u := putReady station (!high) s
  match u.reader.transfer with
  | none => u
  | some t => if t.station = station ∧ high = true then releaseItem t u else u

/-- READY_CHANGE (R123). Without main power only the line's level changes. -/
def execReadyChange (station : Nat) (high : Bool) (s : State) : Host.Outcome State Fault Refusal :=
  if s.powered then event s (readyChangeBody station high) else .next (putReady station (!high) s)

def stallBody (station : Nat) (s : State) : State :=
  match s.reader.transfer with
  | none => s
  | some t =>
    if t.station = station ∧ readyIsLow s station = true then
      breakOff t { stationOf s station with lastEnd := some .stall, idleTimer := 0 } .idle .stall s
    else s

/-- STALL (R123): the granted station's ready line has been low for longer than 2,000 ms since the grant or its fall. -/
def execStall (station : Nat) (s : State) : Host.Outcome State Fault Refusal := event s (stallBody station)

/-- A station that has no transfer, or whose transfer a fault ends (R118, R124). The warm-up timer goes to 0, the
model's choice (log entry 60). -/
def stationFaultBody (station : Nat) (s : State) : State :=
  let x := { stationOf s station with warmTimer := 0 }
  match x.state with
  | .off | .fault => s
  | .standby | .warming | .idle => enterStation station x .fault .stationFault none s
  | .transferring =>
    match s.reader.transfer with
    | some t => breakOff { t with station := station } { x with lastEnd := some .fault } .fault .stationFault s
    | none => enterStation station { x with lastEnd := some .fault } .fault .stationFault none s

/-- STATION_FAULT (R118). -/
def execStationFault (station : Nat) (s : State) : Host.Outcome State Fault Refusal := event s (stationFaultBody station)

/-! ## Store requests -/

/-- Write the READ_SHEET in progress. -/
def putReadJob (j : Option ReadJob) (s : State) : State := { s with store := { s.store with readJob := j } }

def readSheetBody (tag slot first count : Nat) (s : State) : State :=
  let q : Req := ⟨tag, 0x64⟩
  let x := slotOf s slot
  if ¬(slot < Config.storeCount ∧ oneByteCount count ≤ 64) then refusePlain q .badValue s
  else if ¬(x.state = .filled ∨ x.state = .held) then refusePlain q .wrongState s
  else if ¬ first < x.rowCount.getD 0 then refusePlain q .badValue s
  else
    putReadJob (some
      { tag := tag, slot := slot, first := first, count := oneByteCount count, state := x.state, form := x.form
        rowCount := x.rowCount.getD 0 }) (putSlot slot { x with exportMark := true } s)

/-- READ_SHEET (R130): its reply is made when its reads are done. -/
def execReadSheet (tag slot first count : Nat) (s : State) : Host.Outcome State Fault Refusal :=
  request (.readSheet tag slot first count) s (readSheetBody tag slot first count)

/-- The rows a READ_SHEET returns (R130). -/
def exportedRows (s : State) (j : ReadJob) : List (List Byte) :=
  ((slotOf s j.slot).image.drop j.first).take (exportRows j)

/-- The reads of a READ_SHEET are done, through the store arbiter, and its reply is made. The export mark stays until the
reply is sent (R129, R130). -/
def readSheetDoneBody (s : State) : State :=
  match s.store.readJob with
  | none => s
  | some j =>
    let rows := exportedRows s j
    let t := putReadJob none (serveReads .export_ s)
    ok ⟨j.tag, 0x64⟩ ([f1 j.state.ctorIdx, o2 j.form, f2 j.rowCount, f2 j.first, f1 rows.length] ++ rows.map .bytes)
      { t with store := { t.store with exporting := some j.slot } }

/-- READ_SHEET_DONE (R130). -/
def execReadSheetDone (s : State) : Host.Outcome State Fault Refusal := event s readSheetDoneBody

/-- The place of a slot in the marking queue, the head at 0 (R131). -/
def queuePlace (s : State) (n : Nat) : Option Nat :=
  if s.store.queue.contains n then some (s.store.queue.takeWhile (· != n)).length else none

/-- What LIST_SLOTS returns of one slot (R131). The row count and the rows filled take 2 bytes, the model's choice (log entry
14). -/
def slotFields (s : State) (n : Nat) : List Field :=
  let x := slotOf s n
  [f1 x.state.ctorIdx, o2 x.form, o2 x.rowCount, o1 x.source, o4 x.fillInstant, o1 (x.holdReason.map (·.ctorIdx)),
   o4 x.decoded, o4 x.assigned, o4 x.receipt,
   o1 (if x.state = .filled then queuePlace s n else none),
   o2 (if x.state = .filling then some x.rowsFilled else none)]

/-- How many slots are in a state. -/
def countSlots (s : State) (st : SlotState) : Nat := ((allSlots s).filter fun p => decide (p.2.state = st)).length

def listSlotsBody (tag first count : Nat) (s : State) : State :=
  let q : Req := ⟨tag, 0x65⟩
  if ¬(first < Config.storeCount ∧ oneByteCount count ≤ 24) then refusePlain q .badValue s
  else
    let n := min (oneByteCount count) (Config.storeCount - first)
    ok q ([f1 n] ++ (List.range n).flatMap (fun i => slotFields s (first + i)) ++
      [SlotState.free, .filling, .filled, .marking, .held].map (fun st => f1 (countSlots s st)) ++
      [f1 s.store.queue.length] ++ s.store.queue.map f1) s

/-- LIST_SLOTS (R131). -/
def execListSlots (tag first count : Nat) (s : State) : Host.Outcome State Fault Refusal :=
  request (.listSlots tag first count) s (listSlotsBody tag first count)

def discardSheetBody (tag slot : Nat) (s : State) : State :=
  let q : Req := ⟨tag, 0x66⟩
  let x := slotOf s slot
  if ¬ slot < Config.storeCount then refusePlain q .badValue s
  else if ¬(x.state = .filled ∨ x.state = .held) then refusePlain q .wrongState s
  else ok q [o2 x.form, o1 (x.holdReason.map (·.ctorIdx)), o4 x.decoded]
    (freeSlot slot (putQueue (s.store.queue.filter (· != slot)) s))

/-- DISCARD_SHEET (R132). -/
def execDiscardSheet (tag slot : Nat) (s : State) : Host.Outcome State Fault Refusal :=
  request (.discardSheet tag slot) s (discardSheetBody tag slot)

def assignSheetBody (tag slot candidate : Nat) (s : State) : State :=
  let q : Req := ⟨tag, 0x67⟩
  let x := slotOf s slot
  if ¬(slot < Config.storeCount ∧ candidateInRange candidate) then refusePlain q .badValue s
  else if x.state ≠ .held then refusePlain q .wrongState s
  else if ¬ x.receipt.all (fun n => n == candidate) then refuse q .wrongState .receiptGiven none s
  else ok q [] (putQueue (slot :: s.store.queue) (putSlot slot
    { x with state := .filled, assigned := some candidate, holdReason := none, decoded := none } s))

/-- ASSIGN_SHEET (R133). -/
def execAssignSheet (tag slot candidate : Nat) (s : State) : Host.Outcome State Fault Refusal :=
  request (.assignSheet tag slot candidate) s (assignSheetBody tag slot candidate)

end Sys2Proof.Machine
end

