-- ==== Sys2Proof/Machine/StartUp.lean ====
section
/-! DEFINITION. Start-up and power: the cold reset (R198), the power fail (R47) and power return (R199, R64, R76), and
the warm restart (R200), with what each block's start-up table gives (R24, R46, R74, R100, R113, R134, R156, R183,
R202) and the STARTED notice that ends each (R201). -/

namespace Sys2Proof.Machine

/-! ## Cold reset -/

/-- The state a cold reset leaves: every block's cold-reset column, and STARTED queued (R198, R201). What is no state of
the part stays: the commands that wait, the free-value index, the levels of the hall-hold input and of the stations' ready lines
(log entries 32, 34), and the baud rate. -/
def coldReset (cause : StartCause) (fastBaud : Bool) (s : State) : State :=
  { State.reset with
    pending := s.pending
    fresh := s.fresh
    timer := { State.reset.timer with holdInput := s.timer.holdInput }
    reader := { State.reset.reader with readyLow := s.reader.readyLow }
    link := { State.reset.link with
      fastBaud := fastBaud, lastStart := cause, notices := [.started cause .initial 0 true none] } }

/-- COLD_PIN (R198): the RESET input is held low. The baud rate is kept (R202). -/
def execColdPin (s : State) : Host.Outcome State Fault Refusal :=
  .next (if s.powered then coldReset .coldPin s.link.fastBaud s else s)

/-! ## What the two start-ups that keep the retained tables share -/

/-- The link after a start-up, its notices yet to come (R202). -/
def clearedLink (l : Link) : Link :=
  { l with
    assembly := [], buffer := [], replies := [], notices := [], lost := 0, nonOk := 0, discardLength := 0, discardGap := 0
    discardCheck := 0, discardOverrun := 0, restart := .none_ }

/-- The long operations in progress and the READ_SHEET end without reply (R17, R130, R147, R182). -/
def endRuns (s : State) : State := putReadJob none (putRemark none (putSweep none (putAlloc none s)))

/-- The page, phase and message after a start-up (R113). -/
def clearedBoards (b : Boards) : Boards := { b with pageStart := 0, dwellCount := 0, phase := 0, message := none }

/-- A store slot after a start-up: its export mark is clear, a FILLING slot is FREE, a MARKING one FILLED (R134). -/
def restoredSlot (x : Slot) : Slot :=
  match x.state with
  | .filling => { image := x.image }
  | .marking => { x with state := .filled, exportMark := false }
  | _ => { x with exportMark := false }

/-- The Sheet Store and the engine after a start-up: a MARKING slot returns at the head of the marking queue, and no
sheet is in flight (R134, R183). -/
def restoreStore (s : State) : State :=
  let marking := ((allSlots s).filter fun p => decide (p.2.state = .marking)).map (·.1)
  let t := putInFlight none (putQueue (marking ++ s.store.queue) s)
  { t with store := { t.store with
      slots := t.store.slots.map fun p => (p.1, restoredSlot p.2)
      readJob := none
      lastServed := .export_
      exporting := none } }

/-- STARTED ends a start-up (R201). -/
def raiseStarted (cause : StartCause) (outage : Option (Nat × Nat)) (s : State) : State :=
  raise (.started cause s.link.retention s.timer.clock s.timer.clockUnset outage) s

/-! ## Power fail and power return -/

/-- Main power falls: the copy of the clock is the power-fail instant, and every frame and operation in progress ends
without reply (R47, R17, R147, R182, R199). -/
def failNow (s : State) : State :=
  let t := putTransfer none (putInFlight none (endRuns s))
  { putLink (clearedLink t.link) (putTimer { t.timer with failInstant := some t.timer.clockCopy } t) with
    powered := false }

/-- POWER_FAIL (R47). -/
def execPowerFail (s : State) : Host.Outcome State Fault Refusal := .next (if s.powered then failNow s else s)

/-- A hall second lies within the outage: after the fail instant, at or before the clock at return, counted across
midnight (R76). -/
def inOutage (fail clock t : Nat) : Bool :=
  if clock < fail then decide (fail < t ∨ t ≤ clock) else decide (fail < t ∧ t ≤ clock)

/-- A running session is taken through the day end as if a pause had begun at the fail instant (R76). -/
def midnightSession (fail slot : Nat) (s : State) : State :=
  let x := sessionOf s slot
  if x.state = .reading ∨ x.state = .writing then
    dayEndSession slot (putSession slot { x with pauseStart := some fail } s)
  else dayEndSession slot s

/-- Midnight lies within the outage: every running session is taken through the day end at 86,399, and the wrap is
applied (R76). -/
def crossMidnight (fail : Nat) (s : State) : State :=
  let clock := s.timer.clock
  let t := putTimer { s.timer with clock := Config.lastSecond } s
  let t := forEach sessionSlots (midnightSession fail) t
  dayWrap (putTimer { t.timer with clock := clock } t)

/-- A session still running takes the POWER cause (R64). HALL leaves its set where the hall hold is not active, the input
hold being clear after the return (R74). -/
def powerSession (fail slot : Nat) (s : State) : State :=
  let x := sessionOf s slot
  let y := { x with causes := { x.causes with hall := x.causes.hall && hallHoldActive s } }
  if x.state = .paused then
    let z := { y with causes := withCause .power y.causes }
    if z.causes = x.causes then s else enterSession slot z .paused .power s
  else if x.state = .reading ∨ x.state = .writing then addCause slot .power fail .power (putSession slot y s)
  else s

/-- A SEATING session whose start fell within the outage takes POWER and is started (R76). -/
def startInOutage (fail slot : Nat) (s : State) : State :=
  let x := sessionOf s slot
  if x.state = .seating ∧ (x.startDue = true ∨ inOutage fail s.timer.clock x.start = true) then
    startAtClock slot .power (putSession slot { x with causes := withCause .power x.causes } s)
  else s

/-- A DEFINED session whose start fell within the outage has missed it (R76). -/
def missInOutage (fail slot : Nat) (s : State) : State :=
  let x := sessionOf s slot
  if x.state = .defined ∧ (x.startDue = true ∨ inOutage fail s.timer.clock x.start = true) then missStart slot s else s

/-- The Session Timer at a power return (R64, R74, R76). Where power fell before second 86,399 and returns in it, the day end
is left due and is taken after the return: the model's choice, since R72 takes it when the clock reaches 86,399 and R76 says
that instants within the outage are not otherwise taken (log entry 80). -/
def timerReturn (fail : Nat) (s : State) : State :=
  let t := putTimer { s.timer with
    inputHold := false, clockCopy := s.timer.clock
    dayEndTaken := s.timer.dayEndTaken && decide (s.timer.clock = fail) } s
  let t := if t.timer.clock < fail then crossMidnight fail t else t
  let t := forEach sessionSlots (powerSession fail) t
  let t := forEach sessionSlots (startInOutage fail) t
  forEach sessionSlots (missInOutage fail) t

/-- A desk record at a power return: UNREACHABLE, its missed-poll count 0 (R100). -/
def desksReturn (s : State) : State :=
  { s with desk := { s.desk with
    desks := s.desk.desks.map fun p => (p.1, { p.2 with reachable := false, missedPolls := 0 }) } }

/-- A line at a power return: one that was configured restarts RUNNING (R100). -/
def lineReturn (line : Nat) (s : State) : State :=
  let y := { lineOf s line with
    missedCycles := 0, probe := 1, delivery := 0, test := none, position := 0, keepCycle := false
    replySeen := false, awaited := none, lastSent := none }
  if y.state = .off then putLine line y s else enterLine line y .running .startUp s

/-- The slot and rows of the transfer that the outage ended, for the station that was TRANSFERRING: the slot it was filling
stands FILLING until the store starts up (R114, R134). -/
def lostTransfer (s : State) (station : Nat) : Option (Option Nat × Nat) :=
  if (stationOf s station).state = .transferring then
    match (allSlots s).find? fun p => decide (p.2.state = .filling ∧ p.2.source = some station) with
    | none => some (none, 0)
    | some p => some (some p.1, p.2.rowsFilled)
  else none

/-- A station at a power return: one that was not OFF is warmed (R134). -/
def stationReturn (station : Nat) (s : State) : State :=
  let x := { stationOf s station with idleTimer := 0, warmTimer := 0 }
  if x.state = .off then putStation station x s
  else enterStation station (warmed x) .warming .startUp (lostTransfer s station) s

/-- A power return with valid retention: every block starts up in the order of the blocks, and STARTED follows (R199,
R201). -/
def returnNow (fastBaud : Bool) (s : State) : State :=
  let fail := s.timer.failInstant.getD s.timer.clock
  let clock := s.timer.clock
  let t := putLink { clearedLink s.link with fastBaud := fastBaud, lastStart := .power, lastSent := none } s
  let t := timerReturn fail (endRuns { t with powered := true })
  let t := forEach (List.range Config.lineCount) lineReturn (desksReturn t)
  let t := putBoards { clearedBoards t.boards with lastFrame := none } t
  let t := forEach (List.range Config.stationCount) stationReturn (putTransfer none t)
  raiseStarted .power (some (fail, clock)) (restoreStore t)

/-- Power is applied: a power return while the retained tables are valid, a cold reset otherwise (R198, R199). A part
still powered has its power fail first. -/
def powerReturnBody (valid strap : Bool) (s : State) : State :=
  let t := if s.powered then failNow s else s
  if valid then returnNow strap t else coldReset .coldLost strap t

/-- POWER_RETURN (R198, R199). -/
def execPowerReturn (valid strap : Bool) (s : State) : Host.Outcome State Fault Refusal :=
  .next (powerReturnBody valid strap s)

/-! ## Warm restart -/

/-- A line at a warm restart: one in TEST becomes RUNNING, any other goes on (R99, R100). -/
def lineRestart (line : Nat) (s : State) : State :=
  if (lineOf s line).state = .test then leaveTest line .startUp s else s

/-- A station at a warm restart: one that was TRANSFERRING becomes IDLE, its idle timer and check failures 0 (R134, log
entry 48). -/
def stationRestart (station : Nat) (s : State) : State :=
  let x := stationOf s station
  if x.state = .transferring then
    enterStation station { x with lastEnd := some .restart, idleTimer := 0, checkFailures := 0 } .idle .restart
      (s.reader.transfer.bind (movedOf s)) s
  else s

/-- The warm restart, in the order R200 lists, STARTED last (R200, R201). -/
def restartNow (s : State) : State :=
  let t := putLink { clearedLink s.link with lastStart := .restart } (endRuns s)
  let t := forEach (List.range Config.lineCount) lineRestart t
  let t := putBoards (clearedBoards t.boards) t
  let t := putTransfer none (forEach (List.range Config.stationCount) stationRestart t)
  let t := restoreStore t
  let t := putLink { t.link with
    options := if t.link.options.keepOptionsOnRestart then t.link.options else {}
    fault := none } t
  raiseStarted .restart none t

/-- RESTART_BEGIN (R200): the last byte of the RESTART reply has been sent. -/
def execRestartBegin (s : State) : Host.Outcome State Fault Refusal :=
  .next (if s.powered ∧ s.link.restart = .sending then restartNow s else s)

end Sys2Proof.Machine
end

