-- ==== Sys2Proof/Machine/Dispatch.lean ====
section
/-! DEFINITION. Dispatch: each command's meaning, one arm per constructor of `Instr`. -/

namespace Sys2Proof.Machine

/-- The effect of a command on everything but the queue of waiting commands. -/
def exec (i : Instr) (s : State) : Host.Outcome State Fault Refusal :=
  match i with
  | .identify tag => Sys2Proof.Machine.execIdentify tag s
  | .queryFault tag => Sys2Proof.Machine.execQueryFault tag s
  | .setOption tag option value => Sys2Proof.Machine.execSetOption tag option value s
  | .getOption tag option => Sys2Proof.Machine.execGetOption tag option s
  | .restart tag => Sys2Proof.Machine.execRestart tag s
  | .defineSeats tag count entries => Sys2Proof.Machine.execDefineSeats tag count entries s
  | .getSeats tag first count => Sys2Proof.Machine.execGetSeats tag first count s
  | .getSeatMap tag => Sys2Proof.Machine.execGetSeatMap tag s
  | .setSeparation tag mode => Sys2Proof.Machine.execSetSeparation tag mode s
  | .allocate tag slot count origin order => Sys2Proof.Machine.execAllocate tag slot count origin order s
  | .allocateStep => Sys2Proof.Machine.execAllocateStep s
  | .assignSeat tag candidate seat => Sys2Proof.Machine.execAssignSeat tag candidate seat s
  | .unassign tag candidate => Sys2Proof.Machine.execUnassign tag candidate s
  | .moveCandidate tag candidate target retire => Sys2Proof.Machine.execMoveCandidate tag candidate target retire s
  | .addCandidates tag count entries => Sys2Proof.Machine.execAddCandidates tag count entries s
  | .setCandidate tag candidate allowance restAllowance needsAccess slot => Sys2Proof.Machine.execSetCandidate tag candidate allowance restAllowance needsAccess slot s
  | .getCandidate tag candidate => Sys2Proof.Machine.execGetCandidate tag candidate s
  | .listCandidates tag slot first count => Sys2Proof.Machine.execListCandidates tag slot first count s
  | .withdraw tag candidate => Sys2Proof.Machine.execWithdraw tag candidate s
  | .leaveCandidate tag candidate => Sys2Proof.Machine.execLeaveCandidate tag candidate s
  | .markAbsent tag candidate => Sys2Proof.Machine.execMarkAbsent tag candidate s
  | .getClock tag => Sys2Proof.Machine.execGetClock tag s
  | .setClock tag hours minutes seconds => Sys2Proof.Machine.execSetClock tag hours minutes seconds s
  | .defineSession tag slot entry => Sys2Proof.Machine.execDefineSession tag slot entry s
  | .getSession tag slot => Sys2Proof.Machine.execGetSession tag slot s
  | .openSeating tag slot => Sys2Proof.Machine.execOpenSeating tag slot s
  | .startSession tag slot => Sys2Proof.Machine.execStartSession tag slot s
  | .abortSession tag slot => Sys2Proof.Machine.execAbortSession tag slot s
  | .pauseSession tag slot => Sys2Proof.Machine.execPauseSession tag slot s
  | .resumeSession tag slot => Sys2Proof.Machine.execResumeSession tag slot s
  | .holdHall tag => Sys2Proof.Machine.execHoldHall tag s
  | .releaseHall tag => Sys2Proof.Machine.execReleaseHall tag s
  | .extendSession tag slot seconds => Sys2Proof.Machine.execExtendSession tag slot seconds s
  | .grantTime tag candidate seconds => Sys2Proof.Machine.execGrantTime tag candidate seconds s
  | .clearSession tag slot => Sys2Proof.Machine.execClearSession tag slot s
  | .configureLine tag line desks spare autoKeep => Sys2Proof.Machine.execConfigureLine tag line desks spare autoKeep s
  | .getLine tag line => Sys2Proof.Machine.execGetLine tag line s
  | .getDesks tag line first count => Sys2Proof.Machine.execGetDesks tag line first count s
  | .lineTest tag line mode cycles => Sys2Proof.Machine.execLineTest tag line mode cycles s
  | .configureBoards tag rows dwell => Sys2Proof.Machine.execConfigureBoards tag rows dwell s
  | .getBoards tag => Sys2Proof.Machine.execGetBoards tag s
  | .setFocus tag slot => Sys2Proof.Machine.execSetFocus tag slot s
  | .boardMessage tag text duration => Sys2Proof.Machine.execBoardMessage tag text duration s
  | .boardBlank tag slot choice => Sys2Proof.Machine.execBoardBlank tag slot choice s
  | .configureStation tag station kind standby => Sys2Proof.Machine.execConfigureStation tag station kind standby s
  | .stationOff tag station => Sys2Proof.Machine.execStationOff tag station s
  | .wakeStation tag station => Sys2Proof.Machine.execWakeStation tag station s
  | .getStations tag => Sys2Proof.Machine.execGetStations tag s
  | .readSheet tag slot first count => Sys2Proof.Machine.execReadSheet tag slot first count s
  | .readSheetDone => Sys2Proof.Machine.execReadSheetDone s
  | .listSlots tag first count => Sys2Proof.Machine.execListSlots tag first count s
  | .discardSheet tag slot => Sys2Proof.Machine.execDiscardSheet tag slot s
  | .assignSheet tag slot candidate => Sys2Proof.Machine.execAssignSheet tag slot candidate s
  | .recordBooklet tag candidate ordinal form => Sys2Proof.Machine.execRecordBooklet tag candidate ordinal form s
  | .setDeclared tag candidate count => Sys2Proof.Machine.execSetDeclared tag candidate count s
  | .openCollection tag slot => Sys2Proof.Machine.execOpenCollection tag slot s
  | .collectSweep tag slot first count => Sys2Proof.Machine.execCollectSweep tag slot first count s
  | .sweepStep => Sys2Proof.Machine.execSweepStep s
  | .acceptException tag candidate => Sys2Proof.Machine.execAcceptException tag candidate s
  | .closeBundle tag slot => Sys2Proof.Machine.execCloseBundle tag slot s
  | .getBundle tag slot number => Sys2Proof.Machine.execGetBundle tag slot number s
  | .getCollection tag slot first => Sys2Proof.Machine.execGetCollection tag slot first s
  | .beginKey tag slot questions policy floor markThreshold faintThreshold => Sys2Proof.Machine.execBeginKey tag slot questions policy floor markThreshold faintThreshold s
  | .keyPage tag slot first count entries => Sys2Proof.Machine.execKeyPage tag slot first count entries s
  | .commitKey tag slot => Sys2Proof.Machine.execCommitKey tag slot s
  | .getKey tag slot first count => Sys2Proof.Machine.execGetKey tag slot first count s
  | .remark tag slot => Sys2Proof.Machine.execRemark tag slot s
  | .remarkStep => Sys2Proof.Machine.execRemarkStep s
  | .getResult tag candidate => Sys2Proof.Machine.execGetResult tag candidate s
  | .getResponses tag candidate first count => Sys2Proof.Machine.execGetResponses tag candidate first count s
  | .frameReceived bytes check => Sys2Proof.Machine.execFrameReceived bytes check s
  | .frameGapTimeout => Sys2Proof.Machine.execFrameGapTimeout s
  | .badRequest => Sys2Proof.Machine.execBadRequest s
  | .transmitStart rts => Sys2Proof.Machine.execTransmitStart rts s
  | .restartBegin => Sys2Proof.Machine.execRestartBegin s
  | .coldPin => Sys2Proof.Machine.execColdPin s
  | .powerReturn valid strap => Sys2Proof.Machine.execPowerReturn valid strap s
  | .powerFail => Sys2Proof.Machine.execPowerFail s
  | .clockTick => Sys2Proof.Machine.execClockTick s
  | .sessionStart slot => Sys2Proof.Machine.execSessionStart slot s
  | .writingStart slot => Sys2Proof.Machine.execWritingStart slot s
  | .cutoffEvent slot => Sys2Proof.Machine.execCutoffEvent slot s
  | .personalEnd candidate => Sys2Proof.Machine.execPersonalEnd candidate s
  | .sessionWarning slot => Sys2Proof.Machine.execSessionWarning slot s
  | .dayEnd => Sys2Proof.Machine.execDayEnd s
  | .restOver candidate => Sys2Proof.Machine.execRestOver candidate s
  | .hallHoldInput asserted => Sys2Proof.Machine.execHallHoldInput asserted s
  | .inputHold => Sys2Proof.Machine.execInputHold s
  | .sync line => Sys2Proof.Machine.execSync line s
  | .marker line => Sys2Proof.Machine.execMarker line s
  | .poll line => Sys2Proof.Machine.execPoll line s
  | .spareSlot line => Sys2Proof.Machine.execSpareSlot line s
  | .deskReply line bytes => Sys2Proof.Machine.execDeskReply line bytes s
  | .pollNoReply line => Sys2Proof.Machine.execPollNoReply line s
  | .lineCycleEnd line => Sys2Proof.Machine.execLineCycleEnd line s
  | .transmitFault line => Sys2Proof.Machine.execTransmitFault line s
  | .loopFrame line intact => Sys2Proof.Machine.execLoopFrame line intact s
  | .echoRequest line intact => Sys2Proof.Machine.execEchoRequest line intact s
  | .testCycleEnd line => Sys2Proof.Machine.execTestCycleEnd line s
  | .boardFrame => Sys2Proof.Machine.execBoardFrame s
  | .pageTurn => Sys2Proof.Machine.execPageTurn s
  | .messageExpiry => Sys2Proof.Machine.execMessageExpiry s
  | .stationRequest station raised => Sys2Proof.Machine.execStationRequest station raised s
  | .portGrant => Sys2Proof.Machine.execPortGrant s
  | .sheetHeader station bytes => Sys2Proof.Machine.execSheetHeader station bytes s
  | .sheetRow station bytes => Sys2Proof.Machine.execSheetRow station bytes s
  | .coverRecord station bytes => Sys2Proof.Machine.execCoverRecord station bytes s
  | .readyChange station high => Sys2Proof.Machine.execReadyChange station high s
  | .stall station => Sys2Proof.Machine.execStall station s
  | .warmDone station => Sys2Proof.Machine.execWarmDone station s
  | .idleTimeout station => Sys2Proof.Machine.execIdleTimeout station s
  | .feedWake station => Sys2Proof.Machine.execFeedWake station s
  | .stationFault station => Sys2Proof.Machine.execStationFault station s
  | .markingTake => Sys2Proof.Machine.execMarkingTake s
  | .identification => Sys2Proof.Machine.execIdentification s
  | .scoring => Sys2Proof.Machine.execScoring s
  | .coverTaken => Sys2Proof.Machine.execCoverTaken s
  | .frameLengthDiscard byte => Sys2Proof.Machine.execFrameLengthDiscard byte s

end Sys2Proof.Machine
end

