-- ==== Sys2Proof/Safety.lean ====
section
/-! DEFINITION. What counts as a safe run of the CW960, in the terms the statements use: what a command leaves on the
link and in the blocks it does not touch, and the invariants that every step keeps. -/

namespace Sys2Proof.Machine

/-! ## What a command leaves alone -/

/-- The blocks' records of `State`, the link apart. -/
inductive Block where
  | seatMap | roster | timer | desk | boards | reader | store | coll | marking
  deriving DecidableEq, Repr

/-- Every component of the state but the link and the named blocks is as before. -/
def keeps (changed : List Block) (s t : State) : Prop :=
  t.pending = s.pending ∧ t.powered = s.powered ∧ t.fresh = s.fresh ∧
  (Block.seatMap ∉ changed → t.seatMap = s.seatMap) ∧ (Block.roster ∉ changed → t.roster = s.roster) ∧
  (Block.timer ∉ changed → t.timer = s.timer) ∧ (Block.desk ∉ changed → t.desk = s.desk) ∧
  (Block.boards ∉ changed → t.boards = s.boards) ∧ (Block.reader ∉ changed → t.reader = s.reader) ∧
  (Block.store ∉ changed → t.store = s.store) ∧ (Block.coll ∉ changed → t.coll = s.coll) ∧
  (Block.marking ∉ changed → t.marking = s.marking)

/-- The retention status after a command (R195). -/
def retentionFollows (s t : State) : Prop :=
  t.link.retention =
    if s.link.retention = .initial ∧ retainedOf s ≠ retainedOf t then .valid else s.link.retention

/-- The link after notices are raised in their order (R197). -/
def linkAfter (notices : List Notice) (s : State) : Link := (forEach notices raise s).link

/-- A request has been answered: its frame has left the receive buffer, the notices were raised and the reply joined the
reply list, and of the state only the named blocks and the retention status may differ besides. -/
def Answered (r : Reply) (notices : List Notice) (changed : List Block) (s t : State) : Prop :=
  keeps changed s t ∧ retentionFollows s t ∧
  t.link = { linkAfter notices s with
    buffer := s.link.buffer.drop 1, replies := s.link.replies ++ [r], retention := t.link.retention }

/-- As `Answered`, for a reply of any result: one that is not OK is kept in the fault record with its detail and object, and
counted (R193). -/
def AnsweredWith (r : Reply) (detail : Detail) (object : Option Nat) (notices : List Notice) (changed : List Block)
    (s t : State) : Prop :=
  keeps changed s t ∧ retentionFollows s t ∧
  t.link = { linkAfter notices s with
    buffer := s.link.buffer.drop 1, replies := s.link.replies ++ [r], retention := t.link.retention
    fault := if r.result = .ok then s.link.fault
      else some ⟨r.code, r.tag, r.result, detail, object, decide (r.result = .clamped), s.timer.clock⟩
    nonOk := if r.result = .ok then s.link.nonOk else min 65535 (s.link.nonOk + 1) }

/-- A request has been taken and answers later: its frame has left the receive buffer. -/
def Accepted (changed : List Block) (s t : State) : Prop :=
  keeps changed s t ∧ retentionFollows s t ∧
  t.link = { s.link with buffer := s.link.buffer.drop 1, retention := t.link.retention }

/-- An event has been taken: the notices were raised, and only the named blocks and the retention status may differ
besides. -/
def Happened (notices : List Notice) (changed : List Block) (s t : State) : Prop :=
  keeps changed s t ∧ retentionFollows s t ∧
  t.link = { linkAfter notices s with retention := t.link.retention }

/-- A long operation has ended with its reply, in an event. -/
def Concluded (r : Reply) (notices : List Notice) (changed : List Block) (s t : State) : Prop :=
  keeps changed s t ∧ retentionFollows s t ∧
  t.link = { linkAfter notices s with replies := s.link.replies ++ [r], retention := t.link.retention }

/-- A long operation has ended with a reply that is not OK, kept in the fault record and counted (R193). -/
def Failed (r : Reply) (detail : Detail) (object : Option Nat) (changed : List Block) (s t : State) : Prop :=
  keeps changed s t ∧ retentionFollows s t ∧
  t.link = { s.link with
    replies := s.link.replies ++ [r], retention := t.link.retention
    fault := some ⟨r.code, r.tag, r.result, detail, object, false, s.timer.clock⟩
    nonOk := min 65535 (s.link.nonOk + 1) }

/-- The state after an operation on `u` that an event has brought about from `s`, the retention status apart. -/
def After (f : State → State) (s u t : State) : Prop :=
  retentionFollows s t ∧ t = { f u with link := { (f u).link with retention := t.link.retention } }

/-- A transfer has ended: `u` is the state it leaves, the notices raised and only the named blocks changed, and in the same step
the port arbiter has granted again on it (R120, R122 to R125). -/
def EndedAndGranted (notices : List Notice) (changed : List Block) (s u t : State) : Prop :=
  keeps changed s u ∧ u.link = linkAfter notices s ∧ After portGrantBody s u t

/-- With a candidate of the session just settled, the conditions of R57 hold: the session is WRITING at or past its base end with
its cutoff taken, and no other candidate writes, rests, moves or is ABSENCE_PENDING. -/
def EndsAfter (number slot : Nat) (s : State) : Prop :=
  (sessionOf s slot).state = .writing ∧ baseEnd (sessionOf s slot) s.timer.clock ≤ s.timer.clock ∧
  (sessionOf s slot).cutoffTaken.isSome = true ∧
  ∀ d ∈ s.roster, d.slot = slot → d.number ≠ number → timeRuns d = false ∧ d.absencePending = false

/-- The session after a candidate of it has been settled: ENDED where that makes the last condition of R57 true, else as it
was. -/
def SessionFollows (number slot : Nat) (s t : State) : Prop :=
  (EndsAfter number slot s → sessionOf t slot = { sessionOf s slot with state := .ended }) ∧
  (¬ EndsAfter number slot s → sessionOf t slot = sessionOf s slot)

/-- A short reply of OK. -/
def okReply (tag code : Nat) (fields : List Field) : Reply := ⟨tag, code, .ok, fields, false⟩

/-- The reply of an accepted long request that ends with OK. -/
def longReply (tag code : Nat) (fields : List Field) : Reply := ⟨tag, code, .ok, fields, true⟩

/-- A request has been refused, and nothing else has happened: its short reply carries no fields, the fault record names it and
the count of replies that are not OK grows (R189, R193). -/
def Refused (tag code : Nat) (result : Result) (detail : Detail) (object : Option Nat) (s t : State) : Prop :=
  t = { s with link := { s.link with
    buffer := s.link.buffer.drop 1, replies := s.link.replies ++ [⟨tag, code, result, [], false⟩]
    fault := some ⟨code, tag, result, detail, object, false, s.timer.clock⟩
    nonOk := min 65535 (s.link.nonOk + 1) } }

/-- Every seat but the listed ones is as before. -/
def seatsKept (except : List Nat) (s t : State) : Prop := ∀ n, n ∉ except → seatOf t n = seatOf s n

/-- Every candidate record but one number's is as before. -/
def othersKept (number : Nat) (s t : State) : Prop := ∀ m, m ≠ number → candidateOf t m = candidateOf s m

/-- Every session record but one slot's is as before. -/
def sessionsKept (slot : Nat) (s t : State) : Prop := ∀ k, k ≠ slot → sessionOf t k = sessionOf s k

/-- Every line record but one is as before. -/
def linesKept (line : Nat) (s t : State) : Prop := ∀ k, k ≠ line → lineOf t k = lineOf s k

/-- Every station record but one is as before. -/
def stationsKept (station : Nat) (s t : State) : Prop := ∀ k, k ≠ station → stationOf t k = stationOf s k

/-- Every store slot but one is as before. -/
def slotsKept (slot : Nat) (s t : State) : Prop := ∀ k, k ≠ slot → slotOf t k = slotOf s k

/-- The figures of every line (R77, R79): D and S_p in their ranges, the missed-cycle count, the probe and delivery positions too,
and what awaits a reply was sent to one of the addresses 1 to D. -/
def LinesSound (s : State) : Prop :=
  ∀ l, 1 ≤ (lineOf s l).desks ∧ (lineOf s l).desks ≤ 120 ∧ 1 ≤ (lineOf s l).spare ∧ (lineOf s l).spare ≤ 16 ∧
    (lineOf s l).desks + (lineOf s l).spare ≤ 123 ∧ (lineOf s l).missedCycles ≤ 3 ∧
    1 ≤ (lineOf s l).probe ∧ (lineOf s l).probe ≤ (lineOf s l).desks ∧ (lineOf s l).delivery ≤ (lineOf s l).desks ∧
    (∀ a, (lineOf s l).awaited = some (.poll a) → 1 ≤ a ∧ a ≤ (lineOf s l).desks) ∧
    ∀ a k, (lineOf s l).awaited = some (.delivery a k) → 1 ≤ a ∧ a ≤ (lineOf s l).desks

/-- A spare slot of the line may serve the desk (R87): its address is 1 to D, it is REACHABLE and something is owed at it. -/
def servable (s : State) (line address : Nat) : Prop :=
  1 ≤ address ∧ address ≤ (lineOf s line).desks ∧ (deskOf s line address).reachable = true ∧
    ((deskOf s line address).owedDisplay = true ∨ (deskOf s line address).owedSeat = true ∨
      (deskOf s line address).owedEnd = true)

/-- A desk that takes no new deliveries, being above D or on a line in FAULT, has its record as before (R82, R95). -/
def deskKept (line address : Nat) (s t : State) : Prop :=
  deskTakes s line address = false → LinesSound s → address < 256 → deskOf t line address = deskOf s line address

/-- SEAT is owed at a desk, and END with it (R86), where the desk takes new deliveries. -/
def SeatOwedAt (line address : Nat) (s t : State) : Prop :=
  (deskTakes s line address = true → (deskOf t line address).owedSeat = true ∧ (deskOf t line address).owedEnd = true) ∧
  deskKept line address s t

/-- END is owed at a desk (R86), where the desk takes new deliveries. -/
def EndOwedAt (line address : Nat) (s t : State) : Prop :=
  (deskTakes s line address = true → (deskOf t line address).owedEnd = true) ∧ deskKept line address s t

/-- DISPLAY is owed at a desk with a code (R35, R86), where the desk takes new deliveries. -/
def DisplayOwedAt (line address : Nat) (code : DisplayCode) (s t : State) : Prop :=
  (deskTakes s line address = true →
    (deskOf t line address).owedDisplay = true ∧ (deskOf t line address).displayCode = some code) ∧
  deskKept line address s t

/-- The record of a session with R > 0 as its start leaves it (R54): HALL joins its causes while the hall hold is active, and
with no cause it is READING, with one PAUSED from the clock. -/
def startedRecord (s : State) (x : Session) : Session :=
  let causes : Causes := if hallHoldActive s then { x.causes with hall := true } else x.causes
  if causes = {} then { x with causes := causes, state := .reading, startDue := false }
  else { x with
    causes := causes, state := .paused, pauseStart := some s.timer.clock, target := some .reading, startDue := false }

/-- A warning offset is due and not yet given, against the base end at the clock (R71). -/
abbrev warningOwed (x : Session) (clock offset : Nat) (raised : Bool) : Prop :=
  offset ≠ 0 ∧ raised = false ∧ baseEnd x clock ≤ clock + offset

/-- The record of a session with R = 0 as its start leaves it where no cutoff is due in its step (R54, R55, R71): with a cause,
HALL joined while the hall hold is active, it is PAUSED from the clock with target WRITING; with none it is WRITING, the warnings
that are due given. -/
def writingRecord (s : State) (x : Session) : Session :=
  let causes : Causes := if hallHoldActive s then { x.causes with hall := true } else x.causes
  let y := { x with causes := causes, startDue := false, writingStart := some s.timer.clock, state := .writing }
  if causes = {} then { y with
    warn1Raised := y.warn1Raised || decide (warningOwed y s.timer.clock y.warn1 y.warn1Raised)
    warn2Raised := y.warn2Raised || decide (warningOwed y s.timer.clock y.warn2 y.warn2Raised) }
  else { y with state := .paused, pauseStart := some s.timer.clock, target := some .writing }

/-- The notices of such a start (R29, R52, R71): the session's, its PRESENT candidates' in roster order, and the warnings given.
The roster order, and the warnings after the candidates, are the model's choice (log entry 17); a warning past the base end has
0 remaining (log entry 65). -/
def writingNotices (s : State) (slot : Nat) (x : Session) (cause : SessCause) : List Notice :=
  let y := writingRecord s x
  let left := baseEnd y s.timer.clock - s.timer.clock
  .sessionState slot y.paper .seating y.state y.causes cause s.timer.clock ::
    ((s.roster.filter fun c => c.slot == slot && decide (c.state = .present)).map fun c =>
      .candidateState c.number slot c.seat .present .writing .writingStart s.timer.clock) ++
    (if y.warn1Raised = true ∧ x.warn1Raised = false
      then [.sessionWarning slot y.paper 1 (baseEnd y s.timer.clock) left] else []) ++
    (if y.warn2Raised = true ∧ x.warn2Raised = false
      then [.sessionWarning slot y.paper 2 (baseEnd y s.timer.clock) left] else [])

/-- The late cutoff is due in the step of a start with R = 0: with no cause the session is WRITING at once, and the clock is at or
past the cutoff's instant (R56). -/
def cutoffWithStart (s : State) (x : Session) : Prop :=
  hallHoldActive s = false ∧ x.causes = {} ∧ x.start + x.reading + totalPause x s.timer.clock + x.late ≤ s.timer.clock

/-- What the start of a SEATING session `x` with R = 0 leaves of it and its candidates (R54 to R56, R44). Every PRESENT candidate is
WRITING from the clock, END owed at its desk. Where the cutoff is not due with the start its ASSIGNED candidates stay; where it is,
those in contact are ABSENT and the others ABSENCE_PENDING. -/
def WritingBegun (slot : Nat) (x : Session) (s t : State) : Prop :=
  (∀ c ∈ s.roster, c.slot = slot → c.state = .present →
    candidateOf t c.number = some { c with state := .writing, stateSince := { at_ := s.timer.clock } } ∧
    ∀ n, c.seat = some n → EndOwedAt (seatOf s n).line (seatOf s n).address s t) ∧
  (∀ c ∈ s.roster, (c.slot ≠ slot ∨ (c.state ≠ .present ∧ c.state ≠ .assigned)) → candidateOf t c.number = some c) ∧
  (¬ cutoffWithStart s x → sessionOf t slot = writingRecord s x ∧
    ∀ c ∈ s.roster, c.slot = slot → c.state = .assigned → candidateOf t c.number = some c) ∧
  (cutoffWithStart s x →
    ((sessionOf t slot).state = .writing ∨ (sessionOf t slot).state = .ended) ∧
    (sessionOf t slot).cutoffTaken = some s.timer.clock ∧
    ∀ c ∈ s.roster, c.slot = slot → c.state = .assigned → ∀ n, c.seat = some n →
      candidateOf t c.number =
        if inContact s (seatOf s n).line (seatOf s n).address = true
        then some { c with
          state := .absent, stateSince := { at_ := s.timer.clock }, absencePending := false, seat := none, seatSince := none }
        else some { c with absencePending := true })

/-- The causes of a session that runs over a power return (R64, R74): POWER joins them, and HALL stays only where the host hold
keeps the hall hold active, the input hold being clear. -/
def causesAtReturn (s : State) (slot : Nat) : Causes :=
  { (sessionOf s slot).causes with hall := (sessionOf s slot).causes.hall && s.timer.hostHold, power := true }

/-! ## Frames, seats and walks -/

/-- The requests of section 9.4 whose fields have one length: each code with its payload length in bytes (R186, R189). The
widths that R186 leaves open are the model's (log entry 14). -/
def fixedLengths : List (Nat × Nat) :=
  [(0x01, 0), (0x02, 0), (0x03, 5), (0x04, 1), (0x05, 0), (0x11, 3), (0x12, 0), (0x13, 1), (0x14, 5), (0x15, 6), (0x16, 4),
   (0x17, 7), (0x21, 9), (0x22, 4), (0x23, 4), (0x24, 4), (0x25, 4), (0x26, 4)] ++
  [(0x30, 0), (0x31, 3), (0x32, 31), (0x33, 1), (0x34, 1), (0x35, 1), (0x36, 1), (0x37, 1), (0x38, 1), (0x39, 0), (0x3A, 0),
   (0x3B, 3), (0x3C, 6), (0x3D, 1), (0x40, 4), (0x41, 1), (0x42, 4), (0x43, 3), (0x50, 3), (0x51, 0), (0x52, 1), (0x54, 2)] ++
  [(0x60, 4), (0x61, 1), (0x62, 1), (0x63, 0), (0x64, 4), (0x65, 2), (0x66, 1), (0x67, 5), (0x70, 7), (0x71, 5), (0x72, 1),
   (0x73, 5), (0x74, 4), (0x75, 1), (0x76, 3), (0x77, 3), (0x80, 8), (0x82, 1), (0x83, 4), (0x84, 1), (0x85, 4), (0x86, 7)]

/-- The requests of section 9.4 that carry a list, DEFINE_SEATS, ADD_CANDIDATES and KEY_PAGE: the code, the length of the
fixed fields, whose last byte is the count, the length of an entry and the list limit. -/
def listLengths : List (Nat × Nat × Nat × Nat) := [(0x10, 1, 13, 64), (0x20, 1, 9, 16), (0x81, 4, 4, 25)]

/-- The request codes of the table in section 9.4; 53h, BOARD_MESSAGE, carries a text. -/
def requestCodes : List Nat := fixedLengths.map (·.1) ++ listLengths.map (·.1) ++ [0x53]

/-- The payload length of a frame is the one its request's fields give (R189, test 3). A list is the fixed fields and as many
entries as the count says; with a count over the limit, 0 counted as 256, the entries are not looked at. BOARD_MESSAGE is a
text, its count before it, and two bytes. -/
def LengthRight (f : Frame) : Prop :=
  (∃ n, (f.code, n) ∈ fixedLengths ∧ f.payload.length = n) ∨
  (∃ fixed entry limit, (f.code, fixed, entry, limit) ∈ listLengths ∧ fixed ≤ f.payload.length ∧
    ∀ sent count, sent = (f.payload.getD (fixed - 1) 0).toNat → count = (if sent = 0 then 256 else sent) →
      limit < count ∨ f.payload.length = fixed + count * entry) ∨
  (f.code = 0x53 ∧ 1 ≤ f.payload.length ∧ f.payload.length = 1 + (f.payload.getD 0 0).toNat + 2)

/-- Seat m is defined, is adjacent to seat n under the mode in force and names a candidate of the session, and it is not the
seat left out (R10, test 7). -/
def Neighbour (s : State) (slot : Nat) (leftOut : Option Nat) (n m : Nat) : Prop :=
  ∃ y d, (m, y) ∈ definedSeats s ∧ some m ≠ leftOut ∧ adjacent s.seatMap.mode (seatOf s n) y = true ∧
    y.candidate.bind (candidateOf s) = some d ∧ d.slot = slot

/-- How far a seat lies along a walk in a fill order from a grid position: 0 at the position itself, growing to the end of the
order and on from its start (R11). -/
def walkPlace (order : FillOrder) (at_ : Nat × Nat) (x : Seat) : Nat :=
  match order with
  | .rowMajor => (x.row * 64 + x.column + 2560 - (at_.1 * 64 + at_.2)) % 2560
  | .columnMajor => (x.column * 40 + x.row + 2560 - (at_.2 * 40 + at_.1)) % 2560

/-- Seat n is the first of the defined seats with a property that a walk comes to (R11, R12). -/
def FirstInWalk (s : State) (order : FillOrder) (at_ : Nat × Nat) (p : Nat → Prop) (n : Nat) : Prop :=
  (seatOf s n).state ≠ .undefined ∧ p n ∧
  ∀ m, m ≠ n → (seatOf s m).state ≠ .undefined → p m →
    walkPlace order at_ (seatOf s n) < walkPlace order at_ (seatOf s m)

/-- A session is in a state in which it runs: READING, WRITING or PAUSED. -/
abbrev isRunning (x : Session) : Prop := x.state = .reading ∨ x.state = .writing ∨ x.state = .paused

/-! ## Invariants -/

/-- How many short replies wait unsent. -/
def shortReplies (s : State) : Nat := (s.link.replies.filter fun r => !r.long).length

/-- The line tests that run. -/
def runningTests (s : State) : Nat := ((List.range Config.lineCount).filter fun l => (lineOf s l).test.isSome).length

/-- The long operations that run, their replies yet to be made. -/
def runningLong (s : State) : Nat :=
  (s.seatMap.alloc.any fun r => !r.ended).toNat + (s.coll.sweep.any fun r => !r.ended).toNat +
  s.marking.remark.isSome.toNat + runningTests s

/-- The long replies that wait unsent. -/
def longReplies (s : State) : Nat := (s.link.replies.filter (·.long)).length

/-- The long replies of one request that wait unsent. -/
def unsentLong (s : State) (code : Nat) : Nat := (s.link.replies.filter fun r => r.long && r.code == code).length

/-- The bounds of the link and of the Cover Queue: four receive-buffer places (R188), 64 notices, and lost ones only
while the queue is full (R197), counts that stop at 65,535 (R187, R193), one short reply at most, a READ_SHEET in
progress counted as one (R190, R191), 32 covers, a cover transfer in progress counted as one (R125, R138). An ended
seating run or sweep keeps its record exactly while its reply waits (R15, R145). -/
def Bounded (s : State) : Prop :=
  s.link.buffer.length ≤ 4 ∧ s.link.notices.length ≤ 64 ∧ (0 < s.link.lost → s.link.notices.length = 64) ∧
  s.link.lost ≤ 65535 ∧ s.link.nonOk ≤ 65535 ∧ s.link.discardLength ≤ 65535 ∧ s.link.discardGap ≤ 65535 ∧
  s.link.discardCheck ≤ 65535 ∧ s.link.discardOverrun ≤ 65535 ∧
  shortReplies s + s.store.readJob.toList.length ≤ 1 ∧
  s.coll.covers.length + (coverTransfer s).toNat ≤ 32 ∧
  (∀ r ∈ s.link.replies, r.long = true → r.code ∈ [0x14, 0x43, 0x73, 0x84]) ∧
  unsentLong s 0x14 = (s.seatMap.alloc.any (·.ended)).toNat ∧
  unsentLong s 0x73 = (s.coll.sweep.any (·.ended)).toNat ∧ ∀ l, 8 ≤ l → (lineOf s l).test = none

/-- The bound of R191: of the long replies, waiting or still being made, at most one is of REMARK and eight of LINE_TEST, so
with one of ALLOCATE and one of COLLECT_SWEEP eleven in all, and the reply list holds at most twelve. -/
def RepliesBounded (s : State) : Prop :=
  unsentLong s 0x84 + s.marking.remark.isSome.toNat ≤ 1 ∧ unsentLong s 0x43 + runningTests s ≤ 8 ∧
  longReplies s + runningLong s ≤ 11 ∧ s.link.replies.length ≤ 12

/-- The command adds no long operation whose place in the reply list an unsent reply of its kind still holds: a REMARK while
an earlier one's reply waits, or a LINE_TEST while eight run or have replies unsent (log entry 50). -/
def leavesReplyPlaces (c : Instr) (s : State) : Prop :=
  match c with
  | .remark _ _ => unsentLong s 0x84 = 0
  | .lineTest _ _ _ _ => unsentLong s 0x43 + runningTests s < 8
  | _ => True

/-- The marking queue holds each FILLED slot exactly once and no other slot (R128); a transfer fills a FILLING slot, and the
sheet in flight is in a MARKING one, the only one while main power is present. -/
def QueueSound (s : State) : Prop :=
  s.store.queue.Nodup ∧ (∀ n, n ∈ s.store.queue ↔ n < 48 ∧ (slotOf s n).state = .filled) ∧
  (∀ v n, s.reader.transfer = some v → v.slot = some n → n < 48 ∧ (slotOf s n).state = .filling) ∧
  (∀ r, s.marking.inFlight = some r → r.slot < 48 ∧ (slotOf s r.slot).state = .marking) ∧
  (s.powered = true → ∀ n, n < 48 → (slotOf s n).state = .marking → s.marking.inFlight.map (·.slot) = some n)

/-- What a bundle holds (R149): COLLECTED candidates of its session, each once, at least one and at most its session's bundle
size, fewer while it is OPEN; its number has been given. -/
def BundleHolds (s : State) (b : Bundle) : Prop :=
  b.slot < 8 ∧ (sessionOf s b.slot).state ≠ .free ∧ (sessionOf s b.slot).state ≠ .defined ∧
  1 ≤ b.number ∧ b.number < nextBundleOf s b.slot ∧ b.entries ≠ [] ∧ b.entries.Nodup ∧
  b.entries.length ≤ (sessionOf s b.slot).bundleSize ∧
  (b.isOpen = true → b.entries.length < (sessionOf s b.slot).bundleSize) ∧
  ∀ n ∈ b.entries, ∃ c, candidateOf s n = some c ∧ c.slot = b.slot ∧ c.state = .collected ∧ c.bundle = some b.number

/-- The bundle table (R149): every bundle holds what R149 says, no two of a session have one number, the OPEN bundle of a session
is the one its open-bundle entry names, and every COLLECTED candidate stands in the bundle of its session that has its
bundle number, so in exactly one. -/
def BundlesSound (s : State) : Prop :=
  (∀ k, (sessionOf s k).state ≠ .free → 1 ≤ (sessionOf s k).bundleSize) ∧
  (∀ k, 1 ≤ nextBundleOf s k) ∧
  (∀ h b, bundleOf s h = some b → h < 256 ∧ BundleHolds s b ∧ (b.isOpen = true ↔ openBundleOf s b.slot = some h)) ∧
  (∀ k h, openBundleOf s k = some h → (bundleOf s h).any (fun b => b.slot == k) = true) ∧
  (∀ h g b d, bundleOf s h = some b → bundleOf s g = some d → b.slot = d.slot → b.number = d.number → h = g) ∧
  ∀ c ∈ s.roster, c.state = .collected →
    ∃ h, h < 256 ∧ (bundleOf s h).any (fun b => b.slot == c.slot && b.entries.contains c.number) = true

/-- A candidate's time is over: FINISHED, LEFT or COLLECTED. -/
def timeOver (c : Candidate) : Bool := decide (c.state = .finished ∨ c.state = .left ∨ c.state = .collected)

/-- Results (R176): a CURRENT one has the generation of its session's key, which is READY. With what keeps it so: a candidate that
has sat or sits belongs to a session past DEFINED, only one whose time is over has a result or responses, and the sheet being
scored and the remark run stand under a READY key. -/
def ResultsSound (s : State) : Prop :=
  (∀ c ∈ s.roster, ∀ m, c.marks = some m → m.status = .current →
    (keyOf s c.slot).state = .ready ∧ m.generation = (keyOf s c.slot).generation) ∧
  (∀ c ∈ s.roster, c.state = .present ∨ timeRuns c = true ∨ timeOver c = true →
    (sessionOf s c.slot).state ≠ .free ∧ (sessionOf s c.slot).state ≠ .defined) ∧
  (∀ c ∈ s.roster, c.marks.isSome = true ∨ c.responses.isSome = true → timeOver c = true) ∧
  (∀ r, s.marking.inFlight = some r → r.phase = .scoring →
    ∃ k n c, r.session = some k ∧ k < 8 ∧ r.identity = some n ∧ r.generation = some (keyOf s k).generation ∧
      (keyOf s k).state = .ready ∧ candidateOf s n = some c ∧ c.slot = k ∧ timeOver c = true ∧
      (slotOf s r.slot).form = some (sessionOf s k).form) ∧
  (∀ r, s.marking.remark = some r →
    r.slot < 8 ∧ (keyOf s r.slot).state = .ready ∧ r.generation = (keyOf s r.slot).generation)

/-- The sessions of the eight slots: a PAUSED session has a cause, a pause start and a resume target, no other has a pause
start (R49, R59, R60); and while the hall hold is active none is READING or WRITING, and every PAUSED one holds HALL (R62).
-/
def SessionsSound (s : State) : Prop :=
  ∀ k, k < 8 →
    ((sessionOf s k).state = .paused →
      (sessionOf s k).causes ≠ {} ∧ (sessionOf s k).pauseStart.isSome = true ∧ (sessionOf s k).target.isSome = true) ∧
    ((sessionOf s k).state ≠ .paused → (sessionOf s k).pauseStart = none) ∧
    (hallHoldActive s = true →
      (sessionOf s k).state ≠ .reading ∧ (sessionOf s k).state ≠ .writing ∧
      ((sessionOf s k).state = .paused → (sessionOf s k).causes.hall = true))

/-- A candidate record's figures lie in the ranges R25 gives them. -/
def CandidateInRange (c : Candidate) : Prop :=
  1 ≤ c.number ∧ c.number ≤ 99999999 ∧ c.slot < 8 ∧ c.allowance ≤ 100 ∧ c.allowance % 5 = 0 ∧
  c.restAllowance ≤ 3600 ∧ c.grant ≤ 3600

/-- The roster: at most 960 records, no number twice, every figure in its range (R25, R26). -/
def RosterSound (s : State) : Prop :=
  s.roster.length ≤ 960 ∧ (s.roster.map (·.number)).Nodup ∧ ∀ c ∈ s.roster, CandidateInRange c

/-- The seat state R2 gives a seat that names a candidate in a state; none for a candidate that names no seat. -/
def seatStateFor : CandState → Option SeatState
  | .assigned => some .assigned
  | .present | .writing | .resting | .moving => some .inUse
  | .finished | .left => some .awaitingCollection
  | .listed | .absent | .withdrawn | .collected => none

/-- The agreement of R2 seen from a candidate: it names a seat exactly in the states that hold one, and that seat names
it and stands in the state R2 gives. -/
def CandidateAgrees (s : State) (c : Candidate) : Prop :=
  c.seat.isSome = (seatStateFor c.state).isSome ∧
  ∀ n, c.seat = some n → (seatOf s n).candidate = some c.number ∧ some (seatOf s n).state = seatStateFor c.state

/-- The agreement of R2 seen from a seat: one that names a candidate is named by it and carries no OUT_OF_SERVICE flag;
one that names none is UNDEFINED, or FREE or OUT_OF_SERVICE as its flag says. -/
def SeatAgrees (s : State) (n : Nat) : Prop :=
  match (seatOf s n).candidate with
  | some k => (∃ c ∈ s.roster, c.number = k ∧ c.seat = some n) ∧ (seatOf s n).outOfService = false
  | none =>
    (seatOf s n).state = .undefined ∨
      (seatOf s n).state = if (seatOf s n).outOfService then .outOfService else .free

/-- Seats and candidates agree (R2). -/
def SeatsAgree (s : State) : Prop := (∀ c ∈ s.roster, CandidateAgrees s c) ∧ ∀ n, SeatAgrees s n

/-- The seat table (R1, R4, R11): its numbers rise, every defined seat has a number, a grid position and a desk in their ranges,
no two defined seats share a position or a desk, and every allocation cursor is a grid position. -/
def SeatsPlaced (s : State) : Prop :=
  (s.seatMap.seats.map (·.1)).Pairwise (· < ·) ∧
  (∀ n x, (n, x) ∈ definedSeats s →
    n < 960 ∧ x.row < 40 ∧ x.column < 64 ∧ x.line < 8 ∧ 1 ≤ x.address ∧ x.address ≤ 120) ∧
  (∀ n x m y, (n, x) ∈ definedSeats s → (m, y) ∈ definedSeats s → n ≠ m →
    ¬(x.row = y.row ∧ x.column = y.column) ∧ ¬(x.line = y.line ∧ x.address = y.address)) ∧
  ∀ k, (cursorOf s k).1 < 40 ∧ (cursorOf s k).2 < 64

/-- No two seats that are adjacent under the separation mode in force name candidates of the same session (R10). -/
def SeparationHolds (s : State) : Prop :=
  ∀ n m k, adjacent s.seatMap.mode (seatOf s n) (seatOf s m) = true → namesSession s k (seatOf s n) = true →
    namesSession s k (seatOf s m) = false

end Sys2Proof.Machine
end

