-- ==== Sys2Proof/Certificates/Slice0/Obligations.lean ====
section
/-! DEFINITION. The statements for the provers, one `def Obligations.<Name> : Prop` each, in the order of
OBLIGATIONS.json: the whole machine first, then block by block. `Answered`, `Happened` and the other frame predicates
stand in Safety.lean. -/

open Sys2Proof Sys2Proof.Machine

/-! ## The whole machine -/

/-- A step takes the command at the front of the queue and runs it on the state with the queue's rest; on an empty queue
the part idles (the idling is the model's choice, log entry 1). -/
def Obligations.StepRunsTheFrontCommand : Prop :=
  (∀ (c : Instr) (rest : List Instr) (s : State),
    step { s with pending := c :: rest } = exec c { s with pending := rest }) ∧
  ∀ s : State, s.pending = [] → step s = .next s

/-- No command stops the part, and none touches the queue of waiting commands. -/
def Obligations.NoCommandStopsOrTouchesTheQueue : Prop :=
  ∀ (c : Instr) (s : State), ∃ t, exec c s = .next t ∧ t.pending = s.pending

/-- While main power is absent nothing comes about but the clock's counting, the levels of the hall-hold input and of the
ready lines and the power return (R47, R199; that nothing else acts is the model's reading, log entry 46). A host request
that cannot be taken leaves everything as it is, its frame in the receive buffer included. It cannot be taken while a
short reply waits unsent, while a READ_SHEET awaits its reply, and once a RESTART has been taken (R190, R200); and, by the
model's own choice, while the oldest frame in the buffer carries another request (log entry 5). Long operations that run
and long replies that wait hold no request back: its owner judges it against them, and answers BUSY (R190; R13, R96, R142,
R180). That an ALLOCATE or a sweep that has ended counts as running until its reply is sent is the model's reading (log
entry 47), as is that the earlier checks of R13, R142 and R180 go before the BUSY of R16, R146 and R182 (log entry 75). -/
def Obligations.UnavailableCommandsWait : Prop :=
  (
    ∀ s : State, s.powered = false →
      (∀ c : Instr, c ≠ .clockTick → (∀ b, c ≠ .hallHoldInput b) → (∀ n b, c ≠ .readyChange n b) → (∀ v b, c ≠ .powerReturn v b) →
        exec c s = .next s) ∧
      exec .clockTick s =
        .next { s with timer := { s.timer with clock := if s.timer.clock < 86399 then s.timer.clock + 1 else 0 } }) ∧
  (
    ∀ (c : Instr) (s : State), (requestForm c).isSome = true →
      ((∃ r ∈ s.link.replies, r.long = false) ∨ s.store.readJob.isSome = true ∨ s.link.restart ≠ .none_ ∨
        ∃ f rest, s.link.buffer = f :: rest ∧ spells f c = false) →
      exec c s = .next s) ∧
  (
    (∀ (c : Instr) (rs : List Reply) (s : State), (∀ r ∈ s.link.replies, r.long = true) → (∀ r ∈ rs, r.long = true) →
      canTake c { s with link := { s.link with replies := rs } } = canTake c s) ∧
    (∀ (c : Instr) (a : Option AllocRun) (w : Option Sweep) (r : Option Remark) (ls : Table Line) (s : State),
      canTake c { s with
        seatMap := { s.seatMap with alloc := a }, coll := { s.coll with sweep := w }
        marking := { s.marking with remark := r }, desk := { s.desk with lines := ls } } = canTake c s) ∧
    (∀ (tag slot count : Nat) (o : Option Nat) (order : Nat) (s : State),
      canTake (.allocate tag slot count o order) s = true → slot < 8 → order ≤ 1 →
      (∀ n, o = some n → n < 960 ∧ (seatOf s n).state ≠ .undefined) →
      ((sessionOf s slot).state = .defined ∨ (sessionOf s slot).state = .seating) → s.seatMap.alloc.isSome = true →
      ∃ t, exec (.allocate tag slot count o order) s = .next t ∧ Refused tag 0x14 .busy .none_ none s t) ∧
    (∀ (tag slot first count : Nat) (s : State), canTake (.collectSweep tag slot first count) s = true → slot < 8 →
      first < 960 → 1 ≤ count → first + count ≤ 960 → (sessionOf s slot).state = .collecting →
      s.coll.sweep.isSome = true →
      ∃ t, exec (.collectSweep tag slot first count) s = .next t ∧ Refused tag 0x73 .busy .none_ none s t) ∧
    (∀ (tag slot : Nat) (s : State), canTake (.remark tag slot) s = true → slot < 8 → (sessionOf s slot).state ≠ .free →
      (keyOf s slot).state = .ready → s.marking.remark.isSome = true →
      ∃ t, exec (.remark tag slot) s = .next t ∧ Refused tag 0x84 .busy .none_ none s t) ∧
    (∀ (tag line mode cycles : Nat) (s : State), canTake (.lineTest tag line mode cycles) s = true → line < 8 →
      mode ≤ 1 → 1 ≤ cycles → cycles ≤ 255 →
      (lineOf s line).state = .test →
      ∃ t, exec (.lineTest tag line mode cycles) s = .next t ∧ Refused tag 0x43 .busy .none_ none s t))

/-- The retention status becomes VALID with the first change of a retained table, by any command but a start-up; a power
return and a RESTART leave it as it was, and a cold reset makes it INITIAL (R195, R198). Which state counts as a retained
table is the model's reading (log entry 9). -/
def Obligations.RetentionFollowsTheTables : Prop :=
  (∀ (c : Instr) (s t : State), s.powered = true → c ≠ .coldPin → c ≠ .restartBegin → (∀ v b, c ≠ .powerReturn v b) →
    exec c s = .next t → retentionFollows s t) ∧
  (∀ (s : State) (b : Bool), ∃ t, exec (.powerReturn true b) s = .next t ∧ t.link.retention = s.link.retention) ∧
  (∀ s : State, ∃ t, exec .restartBegin s = .next t ∧ t.link.retention = s.link.retention) ∧
  (∀ (s : State) (b : Bool), ∃ t, exec (.powerReturn false b) s = .next t ∧ t.link.retention = .initial) ∧
  (∀ s : State, s.powered = true → ∃ t, exec .coldPin s = .next t ∧ t.link.retention = .initial)

/-! ## The host link -/

/-- IDENTIFY and GET_OPTION answer OK with what R195 and R196 list, and change nothing but the link. SET_OPTION writes a
value in its option's range and answers it; an unknown option and a value outside the range are refused with BAD_VALUE and
change no option (R196); that NOTICE_MASK's range admits bit 0, the bit of no notice, is the model's choice (log entry
33). QUERY_FAULT answers the fault record and the counts as they stood; the five counts become 0 and the record stays
(R194); that a record kept through a power return is answered too is the model's reading (log entry 79). -/
def Obligations.LinkRequestsAnswer : Prop :=
  (
    (∀ (tag : Nat) (s : State), canTake (.identify tag) s = true →
      ∃ t, exec (.identify tag) s = .next t ∧
        Answered (okReply tag 0x01
          [.text ['C', 'W', '9', '6', '0'], Field.num 1 revision, Field.num 2 960, Field.num 2 960, Field.num 1 8, Field.num 1 8, Field.num 1 120,
           Field.num 1 4, Field.num 1 48, Field.num 1 32, Field.num 2 256, Field.num 1 64, Field.num 1 4,
           Field.num 4 (if s.link.fastBaud then 460800 else 115200),
           Field.num 1 (match s.link.lastStart with | .coldPin => 0 | .coldLost => 1 | .power => 2 | .restart => 3),
           Field.num 1 (match s.link.retention with | .initial => 0 | .valid => 1)]) [] [] s t) ∧
    (1 ≤ revision ∧ revision ≤ 255) ∧
    (∀ (tag option : Nat) (s : State), canTake (.getOption tag option) s = true → option < 4 →
      ∃ t, exec (.getOption tag option) s = .next t ∧
        Answered (okReply tag 0x04
          [Field.num 4 (match option with
            | 0 => s.link.options.noticeMask.toNat
            | 1 => s.link.options.idThreshold
            | 2 => s.link.options.stationStandby
            | _ => s.link.options.keepOptionsOnRestart.toNat),
           Field.num 4 (match option with | 0 => 0 | 1 => 128 | 2 => 300 | _ => 0)]) [] [] s t)) ∧
  (
    ∀ (tag option value : Nat) (s : State), canTake (.setOption tag option value) s = true →
      (∀ o : Options,
        ((option = 0 ∧ value < 2 ^ 18 ∧ value.testBit 1 = false ∧ value.testBit 17 = false ∧
            o = { s.link.options with noticeMask := BitVec.ofNat 32 value }) ∨
          (option = 1 ∧ 1 ≤ value ∧ value ≤ 255 ∧ o = { s.link.options with idThreshold := value }) ∨
          (option = 2 ∧ (value = 0 ∨ 30 ≤ value ∧ value ≤ 3600) ∧ o = { s.link.options with stationStandby := value }) ∨
          (option = 3 ∧ value ≤ 1 ∧ o = { s.link.options with keepOptionsOnRestart := value == 1 })) →
        ∃ t, exec (.setOption tag option value) s = .next t ∧ keeps [] s t ∧ retentionFollows s t ∧
          t.link = { s.link with
            buffer := s.link.buffer.drop 1, replies := s.link.replies ++ [okReply tag 0x03 [Field.num 4 value]]
            options := o, retention := t.link.retention }) ∧
      ((3 < option ∨ (option = 0 ∧ (2 ^ 18 ≤ value ∨ value.testBit 1 = true ∨ value.testBit 17 = true)) ∨
          (option = 1 ∧ (value = 0 ∨ 255 < value)) ∨
          (option = 2 ∧ ((0 < value ∧ value < 30) ∨ 3600 < value)) ∨ (option = 3 ∧ 1 < value)) →
        ∃ t, exec (.setOption tag option value) s = .next t ∧ keeps [] s t ∧
          t.link.options = s.link.options ∧ t.link.replies = s.link.replies ++ [⟨tag, 0x03, .badValue, [], false⟩])) ∧
  (
    ∀ (tag : Nat) (s : State), canTake (.queryFault tag) s = true →
      ∃ t, exec (.queryFault tag) s = .next t ∧ keeps [] s t ∧
        t.link = { s.link with
          buffer := s.link.buffer.drop 1
          replies := s.link.replies ++ [okReply tag 0x02
            (faultFields s.link.fault ++
              [Field.num 2 s.link.nonOk, Field.num 2 s.link.discardLength, Field.num 2 s.link.discardGap, Field.num 2 s.link.discardCheck,
               Field.num 2 s.link.discardOverrun])]
          nonOk := 0, discardLength := 0, discardGap := 0, discardCheck := 0, discardOverrun := 0 })

/-- RESTART is answered OK and closes the hand-over; RESTART_BEGIN, once that reply is being sent, is the warm restart:
waiting frames, replies and notices go, the runs end, the clock, the roster, the sessions, the seats, the bundles and the
keys stay, the options take their defaults unless KEEP_OPTIONS_ON_RESTART is set (R75, R200).
A line leaving TEST is RUNNING with END owed at its desks and its missed-cycle count 0 (R99, R100; which of its counts become
0 is log entry 61), a station leaving TRANSFERRING is IDLE with last end RESTART (R134, log entry 48), the FILLING slot is
FREE and the MARKING one FILLED at the head of the marking queue, the covers stay (R134); the notices are those of the lines,
then of the stations, then STARTED (R201). That a line leaving TEST raises LINE_STATE with cause START_UP, and that the
NOTICE_MASK in force before the restart judges these notices before the options return to their defaults, are the model's
reading (log entry 29); that the lines come in rising number, and the stations too, is its choice (log entry 17). -/
def Obligations.RestartIsTakenAndBegins : Prop :=
  (∀ (tag : Nat) (s : State), canTake (.restart tag) s = true →
    ∃ t, exec (.restart tag) s = .next t ∧ keeps [] s t ∧ handOverOpen t = false ∧
      t.link = { s.link with
        buffer := s.link.buffer.drop 1, replies := s.link.replies ++ [okReply tag 0x05 []], restart := .taken }) ∧
  (∀ s : State, s.powered = true → s.link.restart = .sending →
    ∃ t, exec .restartBegin s = .next t ∧ t.pending = s.pending ∧ t.powered = true ∧
      t.timer = s.timer ∧ t.roster = s.roster ∧ t.seatMap = { s.seatMap with alloc := none } ∧
      t.coll = { s.coll with sweep := none } ∧ t.marking = { s.marking with inFlight := none, remark := none } ∧
      t.boards = { s.boards with pageStart := 0, dwellCount := 0, phase := 0, message := none } ∧
      t.reader.transfer = none ∧ t.reader.lastGranted = s.reader.lastGranted ∧ t.store.readJob = none ∧
      t.link.buffer = [] ∧ t.link.replies = [] ∧ t.link.fault = none ∧ t.link.nonOk = 0 ∧
      t.link.restart = .none_ ∧ t.link.lastStart = .restart ∧
      t.link.options = if s.link.options.keepOptionsOnRestart then s.link.options else {}) ∧
  (∀ s : State, s.powered = true → s.link.restart = .sending →
    ∃ t u, exec .restartBegin s = .next t ∧
      (∀ l, l < 8 → lineOf t l = if (lineOf s l).state = .test
        then { lineOf s l with
          state := .running, test := none, missedCycles := 0, position := 0, keepCycle := false, replySeen := false
          awaited := none }
        else lineOf s l) ∧
      ((∀ l, (lineOf s l).desks ≤ 120) → ∀ l a, l < 8 → a ≤ 120 → deskOf t l a =
        if (lineOf s l).state = .test ∧ 1 ≤ a ∧ a ≤ (lineOf s l).desks then { deskOf s l a with owedEnd := true }
        else deskOf s l a) ∧
      (∀ n, n < 4 → stationOf t n = if (stationOf s n).state = .transferring
        then { stationOf s n with state := .idle, lastEnd := some .restart, idleTimer := 0, checkFailures := 0 }
        else stationOf s n) ∧
      (∀ n, slotOf t n = match (slotOf s n).state with
        | .filling => { image := (slotOf s n).image }
        | .marking => { slotOf s n with state := .filled, exportMark := false }
        | _ => { slotOf s n with exportMark := false }) ∧
      t.store.queue = ((List.range 48).filter fun n => decide ((slotOf s n).state = .marking)) ++ s.store.queue ∧
      t.store.exporting = none ∧ t.store.lastServed = .export_ ∧ t.coll.covers = s.coll.covers ∧
      u = { s with link := { s.link with
        assembly := [], buffer := [], replies := [], notices := [], lost := 0, nonOk := 0, discardLength := 0
        discardGap := 0, discardCheck := 0, discardOverrun := 0, restart := .none_, lastStart := .restart } } ∧
      t.link = linkAfter [.started .restart s.link.retention s.timer.clock s.timer.clockUnset none]
        { u with link := { linkAfter
            (((List.range 8).filter fun l => decide ((lineOf s l).state = .test)).map (fun l =>
                .lineState l .test .running .startUp s.timer.clock) ++
              ((List.range 4).filter fun n => decide ((stationOf s n).state = .transferring)).map (fun n =>
                .stationState n (stationOf s n).kind .transferring .idle .restart s.timer.clock
                  (s.reader.transfer.map fun v => (v.slot, (v.slot.map fun m => (slotOf s m).rowsFilled).getD 0)))) u with
          options := t.link.options, fault := none } })

/-- The check of a frame: CRC-16 with the given polynomial from FFFFh, bit by bit, 29B1h over the characters 1 to 9 (R185).
The receiver, on the bytes that reach it. Hunting, it passes over bytes without C9h, and C9h 36h begin a frame; a whole
frame is placed in the buffer, or discarded with exactly one count grown by one, up to 65,535; bytes in assembly may come in
any pieces; a gap gives up the frame of which both sync bytes have come, and a length outside 4 to 1,024 discards it at its
second byte (R184, R187, R188). In which command's bytes a byte stands is the model's own (log entry 52). A buffered frame
that is no request the part knows leaves the buffer and is answered BAD_REQUEST, and the fault record holds it (R189, R193).
The three tests of R189 in their order: WRONG_KIND for a kind that is not REQUEST, UNKNOWN_CODE for a code that section 9.4 does
not have, BAD_LENGTH for a payload that is not as long as the request's fields, where a list's entries are looked at only with
a count within its limit; and the frame of every well-formed host request passes them. The lengths rest on the widths of log
entry 14, the model's presumption. -/
def Obligations.ReceiverJudgesFramesAndRequests : Prop :=
  (
    crc16 [0x31, 0x32, 0x33, 0x34, 0x35, 0x36, 0x37, 0x38, 0x39] = 0x29B1#16 ∧ crc16 [] = 0xFFFF#16 ∧
    ∀ (body : List Byte) (b : Byte),
      crc16 (body ++ [b]) = (List.range 8).foldl
        (fun (r : BitVec 16) (i : Nat) => (if (r.msb != b.getLsbD (7 - i)) = true then (r <<< 1) ^^^ 0x1021#16 else r <<< 1)) (crc16 body)) ∧
  (
    ∀ s : State, s.powered = true → s.link.assembly = [] →
      (∀ (k t1 t0 c l1 l0 : Byte) (payload : List Byte), payload.length ≤ 1020 → s.link.buffer.length < 4 →
        l1.toNat * 256 + l0.toNat = payload.length + 4 →
        exec (.frameReceived ([0xC9, 0x36, l1, l0] ++ k :: t1 :: t0 :: c :: payload)
            (crc16 (k :: t1 :: t0 :: c :: payload))) s =
          .next { s with link := { s.link with buffer := s.link.buffer ++
            [{ kind := k.toNat, tag := t1.toNat * 256 + t0.toNat, code := c.toNat, payload := payload }] } }) ∧
      (∀ (l1 l0 : Byte) (body : List Byte), 4 ≤ body.length → body.length ≤ 1024 → 4 ≤ s.link.buffer.length →
        l1.toNat * 256 + l0.toNat = body.length →
        exec (.frameReceived ([0xC9, 0x36, l1, l0] ++ body) (crc16 body)) s =
          .next { s with link := { s.link with discardOverrun := min 65535 (s.link.discardOverrun + 1) } }) ∧
      (∀ (l1 l0 : Byte) (body : List Byte) (check : BitVec 16), 4 ≤ body.length → body.length ≤ 1024 →
        l1.toNat * 256 + l0.toNat = body.length → crc16 body ≠ check →
        exec (.frameReceived ([0xC9, 0x36, l1, l0] ++ body) check) s =
          .next { s with link := { s.link with discardCheck := min 65535 (s.link.discardCheck + 1) } }) ∧
      (∀ (bytes : List Byte) (check : BitVec 16), (∀ b ∈ bytes ++ bigEndian 2 check.toNat, b ≠ 0xC9) →
        exec (.frameReceived bytes check) s = .next s)) ∧
  (
    ∀ (bytes more : List Byte) (b : Byte) (l : Link),
      takeBytes (bytes ++ more) l = takeBytes more (takeBytes bytes l) ∧
      (l.assembly = [] → takeBytes [b] l = { l with assembly := if b = 0xC9 then [b] else [] }) ∧
      (l.assembly = [0xC9] → takeBytes [b] l = { l with assembly :=
        if b = 0x36 then [0xC9, 0x36] else if b = 0xC9 then [0xC9] else [] })) ∧
  (
    ∀ s : State, s.powered = true →
      (2 ≤ s.link.assembly.length → exec .frameGapTimeout s = .next { s with link := { s.link with
        assembly := [], discardGap := min 65535 (s.link.discardGap + 1) } }) ∧
      (s.link.assembly.length < 2 → exec .frameGapTimeout s = .next { s with link := { s.link with assembly := [] } }) ∧
      (∀ hi lo : Byte, s.link.assembly = [0xC9, 0x36, hi] →
        (hi.toNat * 256 + lo.toNat < 4 ∨ 1024 < hi.toNat * 256 + lo.toNat) →
        exec (.frameLengthDiscard lo) s = .next { s with link := { s.link with
          assembly := [], discardLength := min 65535 (s.link.discardLength + 1) } }) ∧
      (∀ hi lo : Byte, s.link.assembly = [0xC9, 0x36, hi] → 4 ≤ hi.toNat * 256 + lo.toNat →
        hi.toNat * 256 + lo.toNat ≤ 1024 → exec (.frameLengthDiscard lo) s = .next s) ∧
      (∀ lo : Byte, s.link.assembly.length ≠ 3 → exec (.frameLengthDiscard lo) s = .next s)) ∧
  (
    ∀ (f : Frame) (rest : List Frame) (d : Detail) (s : State), s.powered = true → handOverOpen s = true →
      s.link.buffer = f :: rest → frameFailure f = some d →
      exec .badRequest s = .next { s with link := { s.link with
        buffer := rest
        replies := s.link.replies ++ [⟨f.tag, f.code, .badRequest, [], false⟩]
        fault := some ⟨f.code, f.tag, .badRequest, d, none, false, s.timer.clock⟩
        nonOk := min 65535 (s.link.nonOk + 1) } }) ∧
  (∀ f : Frame,
    (frameFailure f = some .wrongKind ↔ f.kind ≠ 1) ∧
    (frameFailure f = some .unknownCode ↔ f.kind = 1 ∧ f.code ∉ requestCodes) ∧
    (frameFailure f = some .badLength ↔ f.kind = 1 ∧ f.code ∈ requestCodes ∧ ¬ LengthRight f) ∧
    (frameFailure f = none ↔ f.kind = 1 ∧ f.code ∈ requestCodes ∧ LengthRight f)) ∧
  (∀ (i : Instr) (f : Frame), i.wellFormed = true → requestFrame i = some f → frameFailure f = none)

/-- The transmitter, RTS asserted, starts the oldest reply; with none waiting and no RESTART taken, the oldest notice, and
NOTICES_LOST takes the place this frees when notices were lost (R192, R197, R200). What stands until a reply is sent goes as
its sending starts: the record of an ended ALLOCATE or sweep (R15, R145) and the export mark of a READ_SHEET (R130); that it
is the start of the sending is the model's reading (log entries 26 and 47). A raised notice is masked, joins the tail, or is
dropped and counted (R197); it changes nothing else. -/
def Obligations.NoticesAreQueuedAndSent : Prop :=
  (
    ∀ s : State, s.powered = true → s.link.restart ≠ .sending →
      (∀ (r : Reply) (rest : List Reply), s.link.replies = r :: rest →
        ∃ t, exec (.transmitStart true) s = .next t ∧ keeps [.seatMap, .coll, .store] s t ∧ retentionFollows s t ∧
          t.link = { s.link with
            replies := rest, lastSent := some (.reply r), retention := t.link.retention
            restart := if s.link.restart = .taken ∧ r.code = 0x05 then .sending else s.link.restart } ∧
          t.seatMap = { s.seatMap with alloc :=
            if r.long = true ∧ r.code = 0x14 ∧ s.seatMap.alloc.any (·.ended) = true then none else s.seatMap.alloc } ∧
          t.coll = { s.coll with sweep :=
            if r.long = true ∧ r.code = 0x73 ∧ s.coll.sweep.any (·.ended) = true then none else s.coll.sweep } ∧
          t.store = { s.store with
            slots := t.store.slots, exporting := if r.code = 0x64 then none else s.store.exporting } ∧
          ∀ n, slotOf t n = if r.code = 0x64 ∧ s.store.exporting = some n then { slotOf s n with exportMark := false }
            else slotOf s n) ∧
      (∀ (n : Notice) (rest : List Notice), s.link.replies = [] → s.link.notices = n :: rest → s.link.restart = .none_ →
        exec (.transmitStart true) s = .next { s with link := { s.link with
          notices := if s.link.lost = 0 then rest else rest ++ [.noticesLost s.link.lost s.timer.clock]
          lost := 0, lastSent := some (.notice n) } }) ∧
      exec (.transmitStart false) s = .next s) ∧
  (
    ∀ (n : Notice) (s : State),
      (s.link.options.noticeMask.getLsbD (noticeCode n) = true → raise n s = s) ∧
      (s.link.options.noticeMask.getLsbD (noticeCode n) = false → s.link.notices.length < 64 →
        raise n s = { s with link := { s.link with notices := s.link.notices ++ [n] } }) ∧
      (s.link.options.noticeMask.getLsbD (noticeCode n) = false → 64 ≤ s.link.notices.length →
        raise n s = { s with link := { s.link with lost := min 65535 (s.link.lost + 1) } }))

/-! ## Start-up and power -/

/-- A cold reset leaves the state of `State.reset`, but for what is no state of the part: the waiting commands, the
free-value index, the levels of the hall-hold input and of the stations' ready lines (the model's reading, log entries 32
and 34); and the baud rate, which the RESET input keeps and power sets from its strap (R198, R202). The station request
lines of `State.reset` are the model's choice (log entry 7). Main power falls: the copy of the clock becomes the
power-fail instant, and every frame, reply, notice, run and transfer in progress ends without reply; every retained table
stays (R47, R199; that the replies and notices are gone with the power and not at its return is the model's reading, log
entry 46). -/
def Obligations.ColdResetAndPowerFail : Prop :=
  (
    (∀ s : State, s.powered = true →
      exec .coldPin s = .next { State.reset with
        pending := s.pending, fresh := s.fresh, timer := { State.reset.timer with holdInput := s.timer.holdInput }
        reader := { State.reset.reader with readyLow := s.reader.readyLow }
        link := { State.reset.link with fastBaud := s.link.fastBaud } }) ∧
    (∀ (strap : Bool) (s : State),
      exec (.powerReturn false strap) s = .next { State.reset with
        pending := s.pending, fresh := s.fresh, timer := { State.reset.timer with holdInput := s.timer.holdInput }
        reader := { State.reset.reader with readyLow := s.reader.readyLow }
        link := { State.reset.link with
          fastBaud := strap, lastStart := .coldLost, notices := [.started .coldLost .initial 0 true none] } })) ∧
  (
    ∀ s : State, s.powered = true →
      ∃ t, exec .powerFail s = .next t ∧ t.powered = false ∧ t.pending = s.pending ∧
        t.timer = { s.timer with failInstant := some s.timer.clockCopy } ∧
        t.link = { s.link with
          assembly := [], buffer := [], replies := [], notices := [], lost := 0, nonOk := 0, discardLength := 0, discardGap := 0
          discardCheck := 0, discardOverrun := 0, restart := .none_ } ∧
        t.seatMap = { s.seatMap with alloc := none } ∧ t.coll = { s.coll with sweep := none } ∧
        t.marking = { s.marking with inFlight := none, remark := none } ∧
        t.reader = { s.reader with transfer := none } ∧ t.store = { s.store with readJob := none } ∧
        t.roster = s.roster ∧ t.desk = s.desk ∧ t.boards = s.boards ∧ retainedOf t = retainedOf s)

/-- A power return with valid retention: what each start-up table gives the Board Driver, the desks, the lines, the
stations, the store, the runs and the link; and the Session Timer is left as it is where no session stands and no midnight
lies in the outage (R74, R100, R113, R134, R202). With sessions standing: one in READING or WRITING is PAUSED from the
fail instant with POWER, a PAUSED one takes POWER into its set, a SEATING one whose start the outage took is started
PAUSED at the return, a DEFINED one has missed it (R64, R76); and where midnight lies in the outage a running session is
ended as if paused from the fail instant to 86,399, its candidates settled, the wrap applied to every session and
candidate, and the starts of SEATING and DEFINED sessions that the outage took, counted across midnight, taken or missed
(R72, R73, R76). The notices come in the order of the blocks, STARTED last, and the notice of a station whose transfer the
outage ended carries its slot and rows (R114, R201). That the return writes the copy of the clock is the model's choice
(log entry 31), as are the day end's mark (log entry 11), by which the day end is still due where power fell before second
86,399 and returns in it (log entry 80), that a session whose start was already due when power failed
starts at the return with them (log entry 12) and the boards' last frame (log entry 8). That HALL leaves the cause sets
inside the return, the input hold being clear, where only that hold held it, so that the SESSION_STATE notices carry the
set without it, is the model's reading (`causesAtReturn`, log entry 28); that the notices of a block come in rising number
is its choice (log entry 17). -/
def Obligations.PowerReturnStartsTheBlocksUp : Prop :=
  (∀ (strap : Bool) (s : State), s.powered = false →
    ∃ t, exec (.powerReturn true strap) s = .next t ∧ t.powered = true ∧ t.pending = s.pending ∧
      t.link.fastBaud = strap ∧ t.link.lastStart = .power ∧ t.link.options = s.link.options ∧
      t.link.fault = s.link.fault ∧ t.link.buffer = [] ∧ t.link.replies = [] ∧ t.link.restart = .none_ ∧
      t.seatMap.alloc = none ∧ t.seatMap.mode = s.seatMap.mode ∧ t.seatMap.cursors = s.seatMap.cursors ∧
      t.coll.sweep = none ∧ t.coll.covers = s.coll.covers ∧ t.coll.bundles = s.coll.bundles ∧
      t.marking = { s.marking with inFlight := none, remark := none } ∧
      t.boards = { s.boards with pageStart := 0, dwellCount := 0, phase := 0, message := none, lastFrame := none } ∧
      (∀ l a, (deskOf t l a).reachable = false ∧ (deskOf t l a).missedPolls = 0) ∧
      (∀ l, l < 8 → (lineOf t l).state = (if (lineOf s l).state = .off then .off else .running) ∧
        (lineOf t l).desks = (lineOf s l).desks ∧ (lineOf t l).spare = (lineOf s l).spare ∧
        (lineOf t l).missedCycles = 0 ∧ (lineOf t l).probe = 1 ∧ (lineOf t l).delivery = 0 ∧ (lineOf t l).test = none) ∧
      (∀ n, n < 4 → (stationOf t n).state = (if (stationOf s n).state = .off then .off else .warming) ∧
        (stationOf t n).kind = (stationOf s n).kind ∧ (stationOf t n).standby = (stationOf s n).standby ∧
        (stationOf t n).warmTimer = (if (stationOf s n).state = .off then 0 else 4)) ∧
      (∀ n, slotOf t n = match (slotOf s n).state with
        | .filling => { image := (slotOf s n).image }
        | .marking => { slotOf s n with state := .filled, exportMark := false }
        | _ => { slotOf s n with exportMark := false }) ∧
      t.store.queue = ((List.range 48).filter fun n => decide ((slotOf s n).state = .marking)) ++ s.store.queue ∧
      t.store.readJob = none ∧ t.store.exporting = none ∧ t.store.lastServed = .export_ ∧
      t.timer.inputHold = false ∧ t.timer.hostHold = s.timer.hostHold ∧ t.timer.clock = s.timer.clock ∧
      (s.timer.sessions = [] → s.timer.failInstant.all (fun f => decide (f ≤ s.timer.clock)) = true →
        t.timer = { s.timer with
          inputHold := false, clockCopy := s.timer.clock
          dayEndTaken := s.timer.dayEndTaken && decide (s.timer.clock = s.timer.failInstant.getD s.timer.clock) } ∧
        t.roster = s.roster ∧ t.seatMap = { s.seatMap with alloc := none })) ∧
  (∀ (strap : Bool) (fail : Nat) (s : State), s.powered = false → s.timer.failInstant = some fail →
    fail ≤ s.timer.clock → s.timer.clock < 86399 → RosterSound s →
    ∃ t, exec (.powerReturn true strap) s = .next t ∧
      (∀ (k : Nat) (x : Session) (taken : Causes) (started : Bool), k < 8 → x = sessionOf s k →
        taken = causesAtReturn s k →
        started = (x.startDue || decide (fail < x.start ∧ x.start ≤ s.timer.clock)) →
        sessionOf t k =
          if x.state = .reading then { x with
            state := .paused, causes := taken, pauseStart := some fail, target := some .reading }
          else if x.state = .writing then { x with
            state := .paused, causes := taken, pauseStart := some fail, target := some .writing }
          else if x.state = .paused then { x with causes := taken }
          else if x.state = .seating ∧ started = true then { x with
            state := .paused, start := s.timer.clock, startDue := false, pauseStart := some s.timer.clock
            causes := { x.causes with hall := x.causes.hall || s.timer.hostHold, power := true }
            target := some (if x.reading = 0 then .writing else .reading)
            writingStart := if x.reading = 0 then some s.timer.clock else x.writingStart }
          else if x.state = .defined ∧ started = true then { x with startMissed := true, startDue := false }
          else x) ∧
      (∀ c ∈ s.roster, candidateOf t c.number = some (
        if c.state = .present ∧ (sessionOf s c.slot).state = .seating ∧ (sessionOf s c.slot).reading = 0 ∧
            ((sessionOf s c.slot).startDue = true ∨
              fail < (sessionOf s c.slot).start ∧ (sessionOf s c.slot).start ≤ s.timer.clock)
        then { c with state := .writing, stateSince := { at_ := s.timer.clock } } else c))) ∧
  (∀ (strap : Bool) (fail : Nat) (s : State), s.powered = false → s.timer.failInstant = some fail →
    fail ≤ s.timer.clock → (∀ k, k < 8 → (sessionOf s k).state ≠ .seating ∧ (sessionOf s k).state ≠ .defined) →
    ∃ t, exec (.powerReturn true strap) s = .next t ∧
      t.link = linkAfter
        ((((List.range 8).filter fun k => decide (isRunning (sessionOf s k) ∧
              ((sessionOf s k).state = .paused → causesAtReturn s k ≠ (sessionOf s k).causes))).map fun k =>
            .sessionState k (sessionOf s k).paper (sessionOf s k).state .paused (causesAtReturn s k) .power
              s.timer.clock) ++
          (((List.range 8).filter fun l => decide ((lineOf s l).state ≠ .off)).map fun l =>
            .lineState l (lineOf s l).state .running .startUp s.timer.clock) ++
          (((List.range 4).filter fun n => decide ((stationOf s n).state ≠ .off)).map fun n =>
            .stationState n (stationOf s n).kind (stationOf s n).state .warming .startUp s.timer.clock
              (lostTransfer s n)) ++
          [.started .power s.link.retention s.timer.clock s.timer.clockUnset (some (fail, s.timer.clock))])
        { s with link := { s.link with
          assembly := [], buffer := [], replies := [], notices := [], lost := 0, nonOk := 0, discardLength := 0
          discardGap := 0, discardCheck := 0, discardOverrun := 0, restart := .none_, fastBaud := strap
          lastStart := .power, lastSent := none } }) ∧
  (∀ (n : Nat) (s : State),
    ((stationOf s n).state ≠ .transferring → lostTransfer s n = none) ∧
    (∀ m, (stationOf s n).state = .transferring → m < 48 → (slotOf s m).state = .filling →
      (slotOf s m).source = some n → (∀ j, j < m → ¬((slotOf s j).state = .filling ∧ (slotOf s j).source = some n)) →
      lostTransfer s n = some (some m, (slotOf s m).rowsFilled))) ∧
  (∀ (strap : Bool) (fail : Nat) (s : State), s.powered = false → s.timer.failInstant = some fail →
    s.timer.clock < fail → RosterSound s →
    ∃ t, exec (.powerReturn true strap) s = .next t ∧
      ∀ (k : Nat) (x : Session), k < 8 → isRunning (sessionOf s k) →
        x = closePause (if (sessionOf s k).state = .paused then sessionOf s k
          else { sessionOf s k with pauseStart := some fail }) 86399 →
        sessionOf t k = { x with
          state := .ended, causes := {}, target := none, pauseLog := [], horizon := none } ∧
        ∀ c ∈ s.roster, c.slot = k → candidateOf t c.number = some (
          let since : Option Instant := c.seatSince.map fun i => { i with earlier := true }
          let now : Instant := { at_ := 86399, earlier := true }
          if timeRuns c then
            { closeAway x 86399 c with
              state := .finished, stateSince := now, outAtEnd := true, seatSince := since, lastEffective := none
              personalEnd := some (computedEnd x 86399 c), endClamped := computedClamp x 86399 c }
          else if c.state = .present then
            { c with state := .left, stateSince := now, outAtEnd := true, seatSince := since, lastEffective := none }
          else if c.state = .assigned then
            { c with
              state := .absent, stateSince := now, absencePending := false, seat := none, seatSince := none
              lastEffective := none }
          else
            { c with
              stateSince := { c.stateSince with earlier := true }, seatSince := since, lastEffective := none })) ∧
  (∀ (strap : Bool) (fail : Nat) (s : State), s.powered = false → s.timer.failInstant = some fail →
    s.timer.clock < fail → s.timer.clock < 86399 → RosterSound s →
    ∃ t, exec (.powerReturn true strap) s = .next t ∧
      ∀ (k : Nat) (x : Session) (started : Bool), k < 8 → ¬ isRunning (sessionOf s k) →
        x = { sessionOf s k with pauseLog := [], horizon := none } →
        started = (x.startDue || decide (fail < x.start ∨ x.start ≤ s.timer.clock)) →
        sessionOf t k = (
          if x.state = .seating ∧ started = true then { x with
            state := .paused, start := s.timer.clock, startDue := false, pauseStart := some s.timer.clock
            causes := { x.causes with hall := x.causes.hall || s.timer.hostHold, power := true }
            target := some (if x.reading = 0 then .writing else .reading)
            writingStart := if x.reading = 0 then some s.timer.clock else x.writingStart }
          else if x.state = .defined ∧ started = true then { x with startMissed := true, startDue := false }
          else x) ∧
        ∀ c ∈ s.roster, c.slot = k → candidateOf t c.number = some { c with
          state := if c.state = .present ∧ x.state = .seating ∧ started = true ∧ x.reading = 0 then .writing else c.state
          stateSince := if c.state = .present ∧ x.state = .seating ∧ started = true ∧ x.reading = 0
            then { at_ := s.timer.clock } else { c.stateSince with earlier := true }
          seatSince := c.seatSince.map fun i => { i with earlier := true }, lastEffective := none })

/-! ## The hall clock and the sessions -/

/-- GET_CLOCK answers the clock, its flags, the power-fail instant and the hall hold (R47), and changes nothing else. A
second passes: the clock advances or wraps and is copied into the retained tables, the stations' timers count, a start
instant reached is due; the wrap empties the pause logs, clears every last effective instant, marks the recorded instants
as of an earlier clock and makes a start at 0 due; a session whose end of R57 the second brings about is ENDED and its
ASSIGNED candidates are ABSENT, and everything else stays (R47, R57, R73, R114, R116). That CLOCK_TICK is the second of
the stations' timers too, and where the idle timer stops, is the model's choice (log entry 23), as is the flag of a start
that is due (log entry 12). SET_CLOCK with no session open sets the clock, clears CLOCK_UNSET, clears the last effective
instants and marks the recorded ones, and finds the DEFINED sessions whose start it passes (R48). -/
def Obligations.ClockIsReadSetAndCounted : Prop :=
  (
    ∀ (tag : Nat) (s : State), canTake (.getClock tag) s = true →
      ∃ t, exec (.getClock tag) s = .next t ∧
        Answered (okReply tag 0x30
          [Field.num 4 s.timer.clock, Field.num 1 s.timer.clockUnset.toNat, Field.opt 4 s.timer.failInstant,
           Field.num 1 s.timer.inputHold.toNat, Field.num 1 s.timer.hostHold.toNat,
           Field.num 1 (s.timer.inputHold || s.timer.hostHold).toNat]) [] [] s t) ∧
  (
    ∀ s : State, s.powered = true →
      ∃ t, exec .clockTick s = .next t ∧ t.pending = s.pending ∧
        t.timer.clock = (if s.timer.clock < 86399 then s.timer.clock + 1 else 0) ∧
        t.timer.clockCopy = t.timer.clock ∧ t.timer.clockUnset = s.timer.clockUnset ∧
        t.timer.inputHold = s.timer.inputHold ∧ t.timer.hostHold = s.timer.hostHold ∧
        t.boards = s.boards ∧ t.store = s.store ∧ t.coll = s.coll ∧ t.marking = s.marking ∧
        t.reader.transfer = s.reader.transfer ∧ t.link.replies = s.link.replies ∧ t.link.buffer = s.link.buffer ∧
        (∀ n, stationOf t n = match (stationOf s n).state with
          | .warming => { stationOf s n with warmTimer := (stationOf s n).warmTimer - 1 }
          | .idle => { stationOf s n with
              idleTimer := if (stationOf s n).request then 0 else min 3600 ((stationOf s n).idleTimer + 1) }
          | _ => stationOf s n) ∧
        (s.timer.clock < 86399 → (∀ k, k < 8 → (sessionOf s k).state ≠ .writing) →
          Happened [] [.timer, .reader] s t ∧ t.roster = s.roster ∧ t.seatMap = s.seatMap ∧ t.desk = s.desk ∧
          ∀ k, sessionOf t k =
            if ((sessionOf s k).state = .seating ∨ (sessionOf s k).state = .defined) ∧
                (sessionOf s k).start = s.timer.clock + 1
            then { sessionOf s k with startDue := true } else sessionOf s k) ∧
        (86399 ≤ s.timer.clock → ∀ k, (sessionOf t k).pauseLog = [] ∧ (sessionOf t k).horizon = none)) ∧
  (
    ∀ s : State, s.powered = true → RosterSound s → 86399 ≤ s.timer.clock →
      ∃ t, exec .clockTick s = .next t ∧ t.timer.clock = 0 ∧
        (∀ k, (sessionOf s k).state ≠ .writing → sessionOf t k = { sessionOf s k with
          pauseLog := [], horizon := none
          startDue := (sessionOf s k).startDue || decide (
            ((sessionOf s k).state = .seating ∨ (sessionOf s k).state = .defined) ∧ (sessionOf s k).start = 0) }) ∧
        (∀ c ∈ s.roster, (c.state ≠ .assigned ∨ (sessionOf s c.slot).state ≠ .writing) →
          candidateOf t c.number = some { c with
            lastEffective := none, stateSince := { c.stateSince with earlier := true }
            seatSince := c.seatSince.map fun i => { i with earlier := true } }) ∧
        (∀ d ∈ t.roster, d.lastEffective = none) ∧
        ((∀ k, k < 8 → (sessionOf s k).state ≠ .writing) →
          Happened [] [.timer, .roster, .reader] s t ∧ t.roster.map (·.number) = s.roster.map (·.number))) ∧
  (
    ∀ (k : Nat) (x : Session) (s : State), s.powered = true → RosterSound s → s.timer.clock < 86399 → k < 8 →
      x = sessionOf s k → x.state = .writing →
      ∃ t, exec .clockTick s = .next t ∧
        ((baseEnd x (s.timer.clock + 1) ≤ s.timer.clock + 1 ∧ x.cutoffTaken.isSome = true ∧
            ∀ c ∈ s.roster, c.slot = k → timeRuns c = false ∧ c.absencePending = false) →
          sessionOf t k = { x with state := .ended } ∧
          ∀ c ∈ s.roster, c.slot = k → candidateOf t c.number = some (
            if c.state = .assigned then
              { c with
                state := .absent, stateSince := { at_ := s.timer.clock + 1 }, absencePending := false, seat := none
                seatSince := none }
            else c)) ∧
        ((s.timer.clock + 1 < baseEnd x (s.timer.clock + 1) ∨ x.cutoffTaken = none ∨
            ∃ c ∈ s.roster, c.slot = k ∧ (timeRuns c = true ∨ c.absencePending = true)) →
          sessionOf t k = x ∧ ∀ c ∈ s.roster, c.slot = k → candidateOf t c.number = some c)) ∧
  (
    ∀ (tag h m sec : Nat) (s : State), canTake (.setClock tag h m sec) s = true → h ≤ 23 → m ≤ 59 → sec ≤ 59 →
      (∀ k, k < 8 → ¬ isRunning (sessionOf s k) ∧ (sessionOf s k).state ≠ .seating) →
      ∃ t ns, exec (.setClock tag h m sec) s = .next t ∧
        Answered (okReply tag 0x31 [Field.num 4 (h * 3600 + m * 60 + sec)]) ns [.timer, .roster] s t ∧
        t.timer.clock = h * 3600 + m * 60 + sec ∧ t.timer.clockUnset = false ∧
        t.timer.failInstant = s.timer.failInstant ∧ t.timer.inputHold = s.timer.inputHold ∧
        t.timer.hostHold = s.timer.hostHold ∧
        t.roster = s.roster.map (fun c => { c with
          lastEffective := none, stateSince := { c.stateSince with earlier := true }
          seatSince := c.seatSince.map fun i => { i with earlier := true } }) ∧
        ∀ k, k < 8 → sessionOf t k = { sessionOf s k with
          startDue := false
          startMissed := (sessionOf s k).startMissed ||
            decide ((sessionOf s k).state = .defined ∧ (sessionOf s k).start ≤ h * 3600 + m * 60 + sec) })

/-- DEFINE_SESSION that passes every check of R50 writes the fields, clears start missed and the raised flags, makes the
session DEFINED and gives its answer key the form code; where the paper code changes SEAT is owed at the desk of every
seat that names a candidate of the session, and at no other (R50, R71, R86, R159). OPEN_SEATING, START_SESSION and the
start instant (R53, R54). A start with R = 0 takes the writing start in its step: the PRESENT candidates are WRITING with
END owed, the session WRITING, its warnings that are due given, or PAUSED with target WRITING (R54, R55, R71); a cutoff
that is due with it is taken too (R44, R56). The flags of a start that is due and of a day end that has been taken are the
model's own (log entries 12 and 11). The order of the notices of such a start, the candidates' in roster order and the
warnings after them, is the model's choice (log entry 17), as is the time remaining of a warning past the base end (log
entry 65). -/
def Obligations.SessionsAreDefinedAndStarted : Prop :=
  (
    ∀ (tag slot : Nat) (e : SessionEntry) (s : State), canTake (.defineSession tag slot e) s = true →
      slot < 8 → sessionInRange e = true → s.timer.clockUnset = false →
      ((sessionOf s slot).state = .free ∨ (sessionOf s slot).state = .defined) → s.timer.clock < e.start →
      (∀ k, k < 8 → k ≠ slot → (sessionOf s k).state ≠ .free → (sessionOf s k).form ≠ e.form) →
      ∃ t, exec (.defineSession tag slot e) s = .next t ∧
        Answered (okReply tag 0x32 [])
          (if (sessionOf s slot).state = .free
            then [.sessionState slot e.paper .free .defined {} .define s.timer.clock] else [])
          [.timer, .desk, .marking] s t ∧
        sessionOf t slot = { (if (sessionOf s slot).state = .free then ({} : Session) else sessionOf s slot) with
          state := .defined
          paper := e.paper, form := e.form, start := e.start, reading := e.reading, writing := e.writing
          late := e.late, bar := e.bar, lock := e.lock, warn1 := e.warn1, warn2 := e.warn2, grain := e.grain
          sheetRequired := e.sheetRequired == 1, bundleSize := e.bundleSize.getD 25
          startMissed := false, startDue := false, warn1Raised := false, warn2Raised := false } ∧
        sessionsKept slot s t ∧ t.timer.clock = s.timer.clock ∧
        keyOf t slot = { keyOf s slot with form := some e.form } ∧ (∀ k, k ≠ slot → keyOf t k = keyOf s k) ∧
        t.marking.inFlight = s.marking.inFlight ∧ t.marking.remark = s.marking.remark ∧
        ((sessionOf s slot).paper = e.paper → t.desk = s.desk) ∧
        ((sessionOf s slot).paper ≠ e.paper →
          t.desk = { s.desk with desks := t.desk.desks } ∧
          (∀ n c, (seatOf s n).state ≠ .undefined → (seatOf s n).candidate = some c.number →
            candidateOf s c.number = some c → c.slot = slot → SeatOwedAt (seatOf s n).line (seatOf s n).address s t) ∧
          ∀ l a, (∀ p ∈ definedSeats s, deskKey p.2.line p.2.address = deskKey l a →
              ∀ c, p.2.candidate.bind (candidateOf s) = some c → c.slot ≠ slot) →
            deskOf t l a = deskOf s l a)) ∧
  (
    (∀ (tag slot : Nat) (s : State), canTake (.openSeating tag slot) s = true → slot < 8 →
      (sessionOf s slot).state = .defined →
      (s.timer.clock < (sessionOf s slot).start ∨ (sessionOf s slot).startMissed = true) →
      ∃ t, exec (.openSeating tag slot) s = .next t ∧
        Answered (okReply tag 0x34 [])
          [.sessionState slot (sessionOf s slot).paper .defined .seating (sessionOf s slot).causes .host s.timer.clock]
          [.timer] s t ∧
        sessionOf t slot = { sessionOf s slot with state := .seating, startDue := false } ∧ sessionsKept slot s t) ∧
    (∀ (tag slot : Nat) (x : Session) (s : State), canTake (.startSession tag slot) s = true → slot < 8 →
      (sessionOf s slot).state = .seating → x = { sessionOf s slot with start := s.timer.clock } →
      ∃ t ns, exec (.startSession tag slot) s = .next t ∧
        Answered (okReply tag 0x35 [Field.num 4 s.timer.clock]) ns [.timer, .roster, .seatMap, .desk] s t ∧
        (sessionOf t slot).start = s.timer.clock ∧ sessionsKept slot s t ∧ t.timer.clock = s.timer.clock ∧
        (0 < x.reading → ¬(s.timer.clock = 86399 ∧ s.timer.dayEndTaken = true) →
          sessionOf t slot = startedRecord s x ∧
          Answered (okReply tag 0x35 [Field.num 4 s.timer.clock])
            [.sessionState slot x.paper .seating (startedRecord s x).state (startedRecord s x).causes .host s.timer.clock]
            [.timer] s t) ∧
        (x.reading = 0 → (sessionOf t slot).writingStart = some s.timer.clock) ∧
        (x.reading = 0 → RosterSound s → x.cutoffTaken = none → ¬(s.timer.clock = 86399 ∧ s.timer.dayEndTaken = true) →
          WritingBegun slot x s t ∧
          (¬ cutoffWithStart s x →
            Answered (okReply tag 0x35 [Field.num 4 s.timer.clock]) (writingNotices s slot x .host) [.timer, .roster, .seatMap, .desk] s t))) ∧
    (∀ (slot : Nat) (x : Session) (s : State), s.powered = true → x = sessionOf s slot → x.startDue = true →
      x.state = .seating →
      ∃ t ns, exec (.sessionStart slot) s = .next t ∧ Happened ns [.timer, .roster, .seatMap, .desk] s t ∧
        sessionsKept slot s t ∧
        (0 < x.reading → ¬(s.timer.clock = 86399 ∧ s.timer.dayEndTaken = true) →
          sessionOf t slot = startedRecord s x ∧
          Happened
            [.sessionState slot x.paper .seating (startedRecord s x).state (startedRecord s x).causes .clock s.timer.clock]
            [.timer] s t) ∧
        (x.reading = 0 → (sessionOf t slot).writingStart = some s.timer.clock) ∧
        (x.reading = 0 → RosterSound s → x.cutoffTaken = none → ¬(s.timer.clock = 86399 ∧ s.timer.dayEndTaken = true) →
          WritingBegun slot x s t ∧
          (¬ cutoffWithStart s x →
            Happened (writingNotices s slot x .clock) [.timer, .roster, .seatMap, .desk] s t))) ∧
    (∀ (slot : Nat) (s : State), s.powered = true → (sessionOf s slot).startDue = true →
      (sessionOf s slot).state = .defined →
      ∃ t, exec (.sessionStart slot) s = .next t ∧
        Happened [.startMissed slot (sessionOf s slot).paper (sessionOf s slot).start] [.timer] s t ∧
        sessionOf t slot = { sessionOf s slot with startMissed := true, startDue := false } ∧ sessionsKept slot s t))

/-- The writing start makes every PRESENT candidate of the session WRITING and sets Ws (R55); the late cutoff event sets
cutoff taken and makes ASSIGNED candidates in contact ABSENT, the others ABSENCE_PENDING (R56, R44), and ends the session
where that makes the last condition of R57 true. With a writing start ASSIGNED candidates stay ASSIGNED, and the session WRITING
with its cutoff not taken, where the cutoff is not due with it (R55); where it is, they are judged in the same step (R56, R44).
That the writing start takes a session end then due in its own step is
the model's choice where the day end falls in the same second (log entry 67). -/
def Obligations.WritingStartAndCutoff : Prop :=
  (∀ (slot : Nat) (s : State), s.powered = true → RosterSound s → (sessionOf s slot).state = .reading →
    (sessionOf s slot).start + (sessionOf s slot).reading + totalPause (sessionOf s slot) s.timer.clock
      ≤ s.timer.clock →
    ∃ t ns, exec (.writingStart slot) s = .next t ∧ Happened ns [.timer, .roster, .seatMap, .desk] s t ∧
      (sessionOf t slot).writingStart = some s.timer.clock ∧
      ((sessionOf t slot).state = .writing ∨ (sessionOf t slot).state = .ended) ∧ sessionsKept slot s t ∧
      (∀ c ∈ s.roster, c.slot = slot → c.state = .present →
        candidateOf t c.number =
          some { c with state := .writing, stateSince := { at_ := s.timer.clock } } ∧
        ∀ n, c.seat = some n → EndOwedAt (seatOf s n).line (seatOf s n).address s t) ∧
      (∀ c ∈ s.roster, (c.slot ≠ slot ∨ (c.state ≠ .present ∧ c.state ≠ .assigned)) →
        candidateOf t c.number = some c) ∧
      ((sessionOf s slot).cutoffTaken = none →
        (s.timer.clock < (sessionOf s slot).start + (sessionOf s slot).reading +
            totalPause (sessionOf s slot) s.timer.clock + (sessionOf s slot).late →
          (sessionOf t slot).state = .writing ∧ (sessionOf t slot).cutoffTaken = none ∧
          ∀ c ∈ s.roster, c.slot = slot → c.state = .assigned → candidateOf t c.number = some c) ∧
        ((sessionOf s slot).start + (sessionOf s slot).reading +
            totalPause (sessionOf s slot) s.timer.clock + (sessionOf s slot).late ≤ s.timer.clock →
          (sessionOf t slot).cutoffTaken = some s.timer.clock ∧
          ∀ c ∈ s.roster, c.slot = slot → c.state = .assigned → ∀ n, c.seat = some n →
            candidateOf t c.number =
              if (deskOf s (seatOf s n).line (seatOf s n).address).reachable = true ∧
                  (lineOf s (seatOf s n).line).state = .running
              then some { c with
                state := .absent, stateSince := { at_ := s.timer.clock }, absencePending := false, seat := none
                seatSince := none }
              else some { c with absencePending := true }))) ∧
  (∀ (slot : Nat) (s : State), s.powered = true → RosterSound s → (sessionOf s slot).state = .writing →
    (sessionOf s slot).cutoffTaken = none →
    (sessionOf s slot).start + (sessionOf s slot).reading + totalPause (sessionOf s slot) s.timer.clock +
      (sessionOf s slot).late ≤ s.timer.clock →
    ∃ t ns, exec (.cutoffEvent slot) s = .next t ∧ Happened ns [.timer, .roster, .seatMap, .desk] s t ∧
      (sessionOf t slot).cutoffTaken = some s.timer.clock ∧ sessionsKept slot s t ∧
      (∀ c ∈ s.roster, c.slot = slot → c.state = .assigned → ∀ n, c.seat = some n →
        candidateOf t c.number =
          if (deskOf s (seatOf s n).line (seatOf s n).address).reachable = true ∧
              (lineOf s (seatOf s n).line).state = .running
          then some { c with
            state := .absent, stateSince := { at_ := s.timer.clock }, absencePending := false, seat := none
            seatSince := none }
          else some { c with absencePending := true }) ∧
      (∀ c ∈ s.roster, (c.slot ≠ slot ∨ c.state ≠ .assigned) → candidateOf t c.number = some c) ∧
      ((sessionOf t slot).state = .writing ∨ (sessionOf t slot).state = .ended) ∧
      ((sessionOf t slot).state = .ended ↔
        baseEnd (sessionOf s slot) s.timer.clock ≤ s.timer.clock ∧
        ∀ c ∈ s.roster, c.slot = slot → timeRuns c = false ∧ (c.state ≠ .assigned → c.absencePending = false) ∧
          (c.state = .assigned → ∃ n, c.seat = some n ∧
            (deskOf s (seatOf s n).line (seatOf s n).address).reachable = true ∧
            (lineOf s (seatOf s n).line).state = .running)))

/-- ABORT_SESSION voids the session and its candidates in one step (R58). The day end ends every running session and
settles its candidates (R72). The flag that it has been taken is the model's own (log entry 11). -/
def Obligations.AbortAndDayEndSettleTheSession : Prop :=
  (
    ∀ (tag slot : Nat) (s : State), canTake (.abortSession tag slot) s = true → RosterSound s → slot < 8 →
      (isRunning (sessionOf s slot) ∨ (sessionOf s slot).state = .seating) →
      ∃ t ns, exec (.abortSession tag slot) s = .next t ∧
        Answered (okReply tag 0x36
          [Field.num 2 (s.roster.filter fun c => c.slot == slot && (timeRuns c || decide (c.state = .present))).length,
           Field.num 2 (s.roster.filter fun c => c.slot == slot && decide (c.state = .assigned)).length])
          ns [.timer, .roster, .seatMap, .desk] s t ∧
        (sessionOf t slot).state = .void_ ∧ (sessionOf t slot).causes = {} ∧ (sessionOf t slot).target = none ∧
        (sessionOf t slot).pauseStart = none ∧ sessionsKept slot s t ∧
        ∀ c ∈ s.roster, candidateOf t c.number = some (
          if c.slot ≠ slot then c
          else
            let x := closePause (sessionOf s slot) s.timer.clock
            let now : Instant := { at_ := s.timer.clock }
            if timeRuns c then
              { freezeEnd x s.timer.clock (closeAway x s.timer.clock c) with
                state := .left, stateSince := now, void_ := true }
            else if c.state = .present then { c with state := .left, stateSince := now, void_ := true }
            else if c.state = .assigned then
              { c with state := .absent, stateSince := now, absencePending := false, seat := none, seatSince := none }
            else c)) ∧
  (
    ∀ s : State, s.powered = true → RosterSound s → s.timer.clock = 86399 → s.timer.dayEndTaken = false →
      (∀ c ∈ s.roster, c.slot < 8) →
      ∃ t ns, exec .dayEnd s = .next t ∧ Happened ns [.timer, .roster, .seatMap, .desk] s t ∧
        t.timer.dayEndTaken = true ∧ t.timer.clock = 86399 ∧
        (∀ k, k < 8 → isRunning (sessionOf s k) →
          (sessionOf t k).state = .ended ∧ (sessionOf t k).causes = {} ∧ (sessionOf t k).target = none ∧
          (sessionOf t k).pauseStart = none) ∧
        (∀ k, ¬ isRunning (sessionOf s k) → sessionOf t k = sessionOf s k) ∧
        ∀ c ∈ s.roster, candidateOf t c.number = some (
          if ¬ isRunning (sessionOf s c.slot) then c
          else
            let x := closePause (sessionOf s c.slot) 86399
            let now : Instant := { at_ := 86399 }
            if timeRuns c then
              { closeAway x 86399 c with
                state := .finished, stateSince := now, outAtEnd := true
                personalEnd := some (computedEnd x 86399 c), endClamped := computedClamp x 86399 c }
            else if c.state = .present then { c with state := .left, stateSince := now, outAtEnd := true }
            else if c.state = .assigned then
              { c with state := .absent, stateSince := now, absencePending := false, seat := none, seatSince := none }
            else c))

/-- PAUSE_SESSION and RESUME_SESSION (R59 to R61). A RESUME that empties the cause set of a PAUSED session ends the pause:
its interval joins the closed pause total and the pause log, END is owed at the desk of every candidate that writes, rests
or moves, SESSION_STATE is raised with cause RESUME and the session is in its resume target (R60); what R70, R71 and R57
then find due is taken in the same step, the model's reading (log entry 18). -/
def Obligations.PauseAndResume : Prop :=
  (∀ (tag slot : Nat) (s : State) (g : Target), canTake (.pauseSession tag slot) s = true → slot < 8 →
    ((sessionOf s slot).state = .reading ∧ g = .reading ∨ (sessionOf s slot).state = .writing ∧ g = .writing) →
    ∃ t, exec (.pauseSession tag slot) s = .next t ∧
      Answered (okReply tag 0x37
        [Field.num 1 5, Field.num 1 (1 + 2 * (sessionOf s slot).causes.hall.toNat + 4 * (sessionOf s slot).causes.power.toNat)])
        [.sessionState slot (sessionOf s slot).paper (sessionOf s slot).state .paused
          { (sessionOf s slot).causes with host := true } .host s.timer.clock] [.timer] s t ∧
      sessionOf t slot = { sessionOf s slot with
        state := .paused, causes := { (sessionOf s slot).causes with host := true }
        pauseStart := some s.timer.clock, target := some g } ∧ sessionsKept slot s t) ∧
  (∀ (tag slot : Nat) (s : State), canTake (.pauseSession tag slot) s = true → slot < 8 →
    ((sessionOf s slot).state = .paused ∨ (sessionOf s slot).state = .seating) →
    ∃ t ns, exec (.pauseSession tag slot) s = .next t ∧
      Answered (okReply tag 0x37 [Field.num 1 (match (sessionOf s slot).state with | .paused => 5 | _ => 2),
        Field.num 1 (1 + 2 * (sessionOf s slot).causes.hall.toNat + 4 * (sessionOf s slot).causes.power.toNat)])
        ns [.timer] s t ∧
      sessionOf t slot = { sessionOf s slot with causes := { (sessionOf s slot).causes with host := true } } ∧
      sessionsKept slot s t) ∧
  (∀ (tag slot : Nat) (s : State), canTake (.resumeSession tag slot) s = true → slot < 8 →
    ((sessionOf s slot).state = .seating ∨ (sessionOf s slot).state = .reading ∨ (sessionOf s slot).state = .writing ∨
      ((sessionOf s slot).state = .paused ∧ (sessionOf s slot).causes.hall = true)) →
    ∃ t ns, exec (.resumeSession tag slot) s = .next t ∧
      Answered (okReply tag 0x38 [Field.num 1 (match (sessionOf s slot).state with
          | .paused => 5 | .reading => 3 | .writing => 4 | _ => 2),
        Field.num 1 (2 * (sessionOf s slot).causes.hall.toNat)]) ns [.timer] s t ∧
      sessionOf t slot = { sessionOf s slot with
        causes := { (sessionOf s slot).causes with host := false, power := false } } ∧ sessionsKept slot s t) ∧
  (∀ (tag slot p : Nat) (s : State), canTake (.resumeSession tag slot) s = true → RosterSound s → slot < 8 →
    (sessionOf s slot).state = .paused → (sessionOf s slot).causes.hall = false →
    ((sessionOf s slot).causes.host = true ∨ (sessionOf s slot).causes.power = true) →
    (sessionOf s slot).pauseStart = some p →
    ∃ t, exec (.resumeSession tag slot) s = .next t ∧ keeps [.timer, .roster, .seatMap, .desk] s t ∧
      sessionsKept slot s t ∧
      (sessionOf t slot).closedPause = (sessionOf s slot).closedPause + (s.timer.clock - p) ∧
      (sessionOf t slot).pauseStart = none ∧ (sessionOf t slot).causes = {} ∧ (sessionOf t slot).target = none ∧
      ((sessionOf s slot).target = some .reading →
        (sessionOf t slot).state = .reading ∧ t.roster = s.roster ∧ t.seatMap = s.seatMap) ∧
      ((sessionOf s slot).target = some .writing →
        (sessionOf t slot).state = .writing ∨ (sessionOf t slot).state = .ended) ∧
      t.link.replies = s.link.replies ++ [okReply tag 0x38
        [Field.num 1 (match (sessionOf t slot).state with | .reading => 3 | .writing => 4 | _ => 6), Field.num 1 0]] ∧
      (∀ c ∈ s.roster, c.slot = slot → timeRuns c = true → ∀ n, c.seat = some n →
        EndOwedAt (seatOf s n).line (seatOf s n).address s t) ∧
      (s.timer.clock ≤ p → (sessionOf t slot).pauseLog = (sessionOf s slot).pauseLog ∧
        (sessionOf t slot).horizon = (sessionOf s slot).horizon) ∧
      (p < s.timer.clock → (sessionOf s slot).pauseLog.length < 64 →
        (sessionOf t slot).pauseLog = (sessionOf s slot).pauseLog ++ [(p, s.timer.clock)] ∧
        (sessionOf t slot).horizon = (sessionOf s slot).horizon) ∧
      (∀ oldest rest, p < s.timer.clock → (sessionOf s slot).pauseLog = oldest :: rest → 63 ≤ rest.length →
        (sessionOf t slot).pauseLog = rest ++ [(p, s.timer.clock)] ∧
        (sessionOf t slot).horizon = some oldest.2)) ∧
  (∀ (tag slot p : Nat) (x y : Session) (g : SessState) (s : State), canTake (.resumeSession tag slot) s = true →
    RosterSound s → slot < 8 → sessionOf s slot = x → x.state = .paused → x.causes.hall = false →
    (x.causes.host = true ∨ x.causes.power = true) → x.pauseStart = some p →
    (x.target = some .reading ∧ g = .reading ∨ x.target = some .writing ∧ g = .writing) →
    y = { closePause x s.timer.clock with causes := {}, target := none, state := g } →
    (g = .writing → s.timer.clock < baseEnd y s.timer.clock ∧
      (y.warn1 = 0 ∨ y.warn1Raised = true ∨ s.timer.clock + y.warn1 < baseEnd y s.timer.clock) ∧
      (y.warn2 = 0 ∨ y.warn2Raised = true ∨ s.timer.clock + y.warn2 < baseEnd y s.timer.clock) ∧
      ∀ c ∈ s.roster, c.slot = slot → timeRuns c = true → s.timer.clock < computedEnd y s.timer.clock c) →
    ∃ t, exec (.resumeSession tag slot) s = .next t ∧
      Answered (okReply tag 0x38 [Field.num 1 (match g with | .reading => 3 | _ => 4), Field.num 1 0])
        [.sessionState slot x.paper .paused g {} .resume s.timer.clock] [.timer, .desk] s t ∧
      sessionOf t slot = y ∧ sessionsKept slot s t)

/-- The hall hold's two parts and what they do to the sessions (R62): when it becomes active every running session is PAUSED with
HALL, and when it clears, by RELEASE_HALL or by the input, no cause set holds HALL. -/
def Obligations.HallHoldPausesTheHall : Prop :=
  (∀ (tag : Nat) (s : State), canTake (.holdHall tag) s = true →
    ∃ t ns, exec (.holdHall tag) s = .next t ∧ Answered (okReply tag 0x39 []) ns [.timer] s t ∧
      t.timer.hostHold = true ∧ t.timer.inputHold = s.timer.inputHold ∧ t.timer.clock = s.timer.clock ∧
      (hallHoldActive s = false → ∀ k, k < 8 → isRunning (sessionOf s k) →
        (sessionOf t k).state = .paused ∧ (sessionOf t k).causes = { (sessionOf s k).causes with hall := true }) ∧
      (∀ k, (hallHoldActive s = true ∨ ¬ isRunning (sessionOf s k)) → sessionOf t k = sessionOf s k)) ∧
  (∀ (tag : Nat) (s : State), canTake (.releaseHall tag) s = true →
    ∃ t, exec (.releaseHall tag) s = .next t ∧ keeps [.timer, .roster, .seatMap, .desk] s t ∧
      t.link.replies = s.link.replies ++ [okReply tag 0x3A []] ∧
      t.timer.hostHold = false ∧ t.timer.inputHold = s.timer.inputHold ∧
      (s.timer.hostHold = true → s.timer.inputHold = false → ∀ k, k < 8 → (sessionOf t k).causes.hall = false) ∧
      (s.timer.inputHold = true → ∀ k, sessionOf t k = sessionOf s k)) ∧
  (∀ (b : Bool) (s : State),
    exec (.hallHoldInput b) s = .next { s with timer := { s.timer with holdInput := b } }) ∧
  (∀ s : State, s.powered = true →
    ∃ t, exec .inputHold s = .next t ∧ keeps [.timer, .roster, .seatMap, .desk] s t ∧
      t.timer.inputHold = s.timer.holdInput ∧ t.timer.hostHold = s.timer.hostHold ∧
      (s.timer.inputHold = s.timer.holdInput → t = s) ∧
      (s.timer.inputHold = true → s.timer.holdInput = false → s.timer.hostHold = false →
        ∀ k, k < 8 → (sessionOf t k).causes.hall = false) ∧
      (s.timer.hostHold = true → ∀ k, sessionOf t k = sessionOf s k) ∧
      (hallHoldActive s = false → s.timer.holdInput = true → ∀ k, k < 8 → isRunning (sessionOf s k) →
        (sessionOf t k).state = .paused ∧ (sessionOf t k).causes = { (sessionOf s k).causes with hall := true }))

/-- EXTEND_SESSION and GRANT_TIME (R68, R69). -/
def Obligations.ExtendAndGrant : Prop :=
  (∀ (tag slot sec : Nat) (s : State), canTake (.extendSession tag slot sec) s = true → slot < 8 → 1 ≤ sec →
    sec ≤ 3600 → isRunning (sessionOf s slot) →
    ∃ t y, exec (.extendSession tag slot sec) s = .next t ∧ keeps [.timer, .desk] s t ∧
      y = { sessionOf s slot with extension := min 3600 ((sessionOf s slot).extension + sec) } ∧
      sessionOf t slot = { y with
        warn1Raised := y.warn1Raised && decide (baseEnd y s.timer.clock ≤ s.timer.clock + y.warn1)
        warn2Raised := y.warn2Raised && decide (baseEnd y s.timer.clock ≤ s.timer.clock + y.warn2) } ∧
      sessionsKept slot s t ∧
      t.link.replies = s.link.replies ++
        [⟨tag, 0x3B, if (sessionOf s slot).extension + sec ≤ 3600 then .ok else .clamped,
          [Field.num 2 y.extension, Field.num 4 (baseEnd y s.timer.clock)], false⟩] ∧
      ∀ c n, candidateOf s c.number = some c → c ∈ s.roster → c.slot = slot → timeRuns c = true → c.seat = some n →
        computedEnd y s.timer.clock c ≠ computedEnd (sessionOf s slot) s.timer.clock c →
        EndOwedAt (seatOf s n).line (seatOf s n).address s t) ∧
  (∀ (tag number sec : Nat) (c : Candidate) (s : State), canTake (.grantTime tag number sec) s = true → 1 ≤ sec →
    sec ≤ 3600 → candidateOf s number = some c → timeRuns c = true →
    ∃ t d, exec (.grantTime tag number sec) s = .next t ∧ keeps [.roster, .desk] s t ∧
      d = { c with grant := min 3600 (c.grant + sec) } ∧ candidateOf t number = some d ∧ othersKept number s t ∧
      t.link.replies = s.link.replies ++
        [⟨tag, 0x3C, if c.grant + sec ≤ 3600 then .ok else .clamped,
          [Field.num 2 d.grant, Field.opt 4 (some (computedEnd (sessionOf s c.slot) s.timer.clock d))], false⟩] ∧
      ∀ n, c.seat = some n →
        computedEnd (sessionOf s c.slot) s.timer.clock d ≠ computedEnd (sessionOf s c.slot) s.timer.clock c →
        EndOwedAt (seatOf s n).line (seatOf s n).address s t)

/-- A personal end that is due: E is frozen, the candidate is FINISHED, OUT_AT_END when it was away, and its seat awaits
collection (R70); the session ends with it where that makes the last condition of R57 true. The session end: due exactly
under the conditions of R57, it makes the ASSIGNED candidates ABSENT, their seats freed with SEAT owed, and the session
ENDED; otherwise nothing. The session warnings: each due once in WRITING, warning 1 before warning 2 (R71). That the time
remaining past the base end is 0 is the model's choice (log entry 65). -/
def Obligations.EndsAndWarningsAreTaken : Prop :=
  (
    ∀ (number : Nat) (c : Candidate) (s : State), s.powered = true → RosterSound s → SeatsAgree s →
      candidateOf s number = some c → timeRuns c = true → (sessionOf s c.slot).state = .writing →
      computedEnd (sessionOf s c.slot) s.timer.clock c ≤ s.timer.clock →
      ∃ t ns, exec (.personalEnd number) s = .next t ∧ Happened ns [.timer, .roster, .seatMap, .desk] s t ∧
        candidateOf t number = some { closeAway (sessionOf s c.slot) s.timer.clock c with
          state := .finished, stateSince := { at_ := s.timer.clock }
          personalEnd := some (computedEnd (sessionOf s c.slot) s.timer.clock c)
          endClamped := computedClamp (sessionOf s c.slot) s.timer.clock c
          outAtEnd := c.outAtEnd || decide (c.state ≠ .writing) } ∧
        (∀ n, c.seat = some n → (seatOf t n).state = .awaitingCollection ∧ (seatOf t n).candidate = some number) ∧
        (∀ d ∈ s.roster, d.number ≠ number → (d.slot ≠ c.slot ∨ d.state ≠ .assigned) →
          candidateOf t d.number = some d) ∧
        sessionsKept c.slot s t ∧ (c.absencePending = false → SessionFollows number c.slot s t)) ∧
  (
    ∀ (slot : Nat) (s : State),
      (sessionEndDue s slot = true ↔ (sessionOf s slot).state = .writing ∧
        baseEnd (sessionOf s slot) s.timer.clock ≤ s.timer.clock ∧ (sessionOf s slot).cutoffTaken.isSome = true ∧
        ∀ c ∈ s.roster, c.slot = slot → timeRuns c = false ∧ c.absencePending = false) ∧
      (sessionEndDue s slot = false → endSession slot s = s) ∧
      (sessionEndDue s slot = true → RosterSound s →
        ∃ t, t = endSession slot s ∧ keeps [.timer, .roster, .seatMap, .desk] s t ∧
          sessionOf t slot = { sessionOf s slot with state := .ended } ∧ sessionsKept slot s t ∧
          (∀ c ∈ s.roster, candidateOf t c.number = some (
            if c.slot = slot ∧ c.state = .assigned then
              { c with
                state := .absent, stateSince := { at_ := s.timer.clock }, absencePending := false, seat := none
                seatSince := none }
            else c)) ∧
          (∀ c ∈ s.roster, c.slot = slot → c.state = .assigned → ∀ n, c.seat = some n → (seatOf t n).candidate = none ∧
            SeatOwedAt (seatOf s n).line (seatOf s n).address s t) ∧
          ((∀ c ∈ s.roster, c.slot = slot → c.state ≠ .assigned) →
            t.link = (raise (.sessionState slot (sessionOf s slot).paper .writing .ended (sessionOf s slot).causes .end_
              s.timer.clock) s).link))) ∧
  (
    ∀ (slot : Nat) (s : State), s.powered = true → (sessionOf s slot).state = .writing →
      ∃ t, exec (.sessionWarning slot) s = .next t ∧
        (let x := sessionOf s slot
         let base := baseEnd x s.timer.clock
         let due1 := decide (x.warn1 ≠ 0 ∧ base ≤ s.timer.clock + x.warn1) && !x.warn1Raised
         let due2 := decide (x.warn2 ≠ 0 ∧ base ≤ s.timer.clock + x.warn2) && !x.warn2Raised
         Happened
           ((if due1 then [.sessionWarning slot x.paper 1 base (base - s.timer.clock)] else []) ++
            (if due2 then [.sessionWarning slot x.paper 2 base (base - s.timer.clock)] else [])) [.timer] s t ∧
         sessionOf t slot = { x with warn1Raised := x.warn1Raised || due1, warn2Raised := x.warn2Raised || due2 }) ∧
        sessionsKept slot s t)

/-- CLEAR_SESSION that passes its checks, and what refuses it: the five checks of R154 in their order, the first that fails
giving the result (R154, R155). That its SESSION_STATE carries the paper code the session had is
the model's choice (log entry 68); that the checks of R154 are taken in their order, so that the BUSY of R16 for the
session being allocated and of R146 for the swept one comes after WRONG_STATE, is its reading (`clearFailure`, log entry
75). -/
def Obligations.ClearSessionFreesTheSlot : Prop :=
  (∀ (tag slot : Nat) (s : State), canTake (.clearSession tag slot) s = true → clearFailure s slot = none →
    ∃ t, exec (.clearSession tag slot) s = .next t ∧
      Answered (okReply tag 0x3D
        [Field.num 2 (s.roster.filter fun c => c.slot == slot).length,
         Field.num 2 ((List.range 256).filter fun h => (bundleOf s h).any fun b => b.slot == slot).length])
        [.sessionState slot (sessionOf s slot).paper (sessionOf s slot).state .free {} .host s.timer.clock]
        [.timer, .roster, .seatMap, .desk, .boards, .coll, .marking] s t ∧
      t.roster = s.roster.filter (fun c => c.slot != slot) ∧
      sessionOf t slot = {} ∧ sessionsKept slot s t ∧ keyOf t slot = {} ∧ (∀ k, k ≠ slot → keyOf t k = keyOf s k) ∧
      (∀ h, h < 256 → bundleOf t h = (bundleOf s h).filter fun b => b.slot != slot) ∧
      nextBundleOf t slot = 1 ∧ openBundleOf t slot = none ∧ t.coll.covers = s.coll.covers ∧
      t.boards = { s.boards with
        blankSet := s.boards.blankSet.filter (· != slot)
        focus := if s.boards.focus = some slot then none else s.boards.focus } ∧
      (∀ c n, c ∈ s.roster → c.slot = slot → c.seat = some n → (seatOf t n).candidate = none) ∧
      (∀ n, (∀ c ∈ s.roster, c.slot = slot → c.seat ≠ some n) → seatOf t n = seatOf s n)) ∧
  (∀ (tag slot : Nat) (r : Result) (s : State), canTake (.clearSession tag slot) s = true →
    clearFailure s slot = some r →
    ∃ t, exec (.clearSession tag slot) s = .next t ∧ Refused tag 0x3D r .none_ none s t) ∧
  (∀ (slot : Nat) (s : State) (cleared busy : Prop),
    (cleared ↔ (sessionOf s slot).state = .defined ∨ (sessionOf s slot).state = .closed) →
    (busy ↔ (∃ r, s.seatMap.alloc = some r ∧ r.slot = slot) ∨ (∃ r, s.coll.sweep = some r ∧ r.slot = slot) ∨
      (∃ n, n < 48 ∧ (slotOf s n).state = .marking ∧ (slotOf s n).form = some (sessionOf s slot).form) ∨
      ∃ r, s.marking.remark = some r ∧ r.slot = slot) →
    (clearFailure s slot = some .badValue ↔ 8 ≤ slot) ∧
    (clearFailure s slot = some .wrongState ↔ slot < 8 ∧ ¬ cleared) ∧
    (clearFailure s slot = some .busy ↔ slot < 8 ∧ cleared ∧ busy) ∧
    (clearFailure s slot = none ↔ slot < 8 ∧ cleared ∧ ¬ busy))

/-- The six steps of R65: the ceiling of the stretched writing is exact, the sum is rounded up to the grain once, and
clamped at 86,399 with the flag. -/
def Obligations.PersonalEndFormula : Prop :=
  ∀ (x : Session) (clock : Nat) (c : Candidate), 1 ≤ x.grain →
    ∃ wx e0 raw : Nat,
      x.writing * (100 + c.allowance) ≤ 100 * wx ∧ 100 * wx < x.writing * (100 + c.allowance) + 100 ∧
      (x.writing ≤ 21600 → c.allowance ≤ 100 → wx ≤ 43200) ∧
      raw = x.start + x.reading + totalPause x clock + x.extension + c.grant + wx + min c.restTaken c.restAllowance +
        c.moveCredit +
        (if c.state = .moving then (c.moveStart.map fun m => min 600 (unpaused x m clock)).getD 0 else 0) ∧
      raw ≤ e0 ∧ e0 < raw + x.grain ∧ x.grain ∣ e0 ∧
      computedEnd x clock c = min e0 86399 ∧ computedClamp x clock c = decide (86399 < e0)

/-- The base end is R65 with A, G, the rest and the move credits 0, that is S + R + P + Q + W rounded up to the grain and
clamped; the longest end is the largest E of the session's running candidates, or the base end when there are none; and
base end ≤ E ≤ 86,399 for each of them (R66). -/
def Obligations.BaseEndAndLongestEnd : Prop :=
  (∀ (x : Session) (clock : Nat) (c : Candidate), c.allowance = 0 → c.grant = 0 → c.restTaken = 0 →
    c.moveCredit = 0 → c.state ≠ .moving → baseEnd x clock = computedEnd x clock c) ∧
  (∀ (x : Session) (clock : Nat), 1 ≤ x.grain →
    ∃ e0 raw : Nat, raw = x.start + x.reading + totalPause x clock + x.extension + x.writing ∧
      raw ≤ e0 ∧ e0 < raw + x.grain ∧ x.grain ∣ e0 ∧ baseEnd x clock = min e0 86399) ∧
  (∀ (s : State) (slot : Nat), (∀ c ∈ s.roster, c.slot = slot → timeRuns c = false) →
    longestEnd s slot = baseEnd (sessionOf s slot) s.timer.clock) ∧
  (∀ (s : State) (slot : Nat), (∃ c ∈ s.roster, c.slot = slot ∧ timeRuns c = true) →
    ∃ c ∈ s.roster, c.slot = slot ∧ timeRuns c = true ∧ currentEnd s c = some (longestEnd s slot)) ∧
  (∀ (s : State) (slot : Nat) (c : Candidate), c ∈ s.roster → c.slot = slot → timeRuns c = true →
    ∃ e, currentEnd s c = some e ∧ baseEnd (sessionOf s slot) s.timer.clock ≤ e ∧ e ≤ longestEnd s slot ∧ e ≤ 86399)

/-! ## Seats and allocation -/

/-- One entry of DEFINE_SEATS that passes its tests defines or removes its seat, SEAT owed at the desk the seat takes and,
where a defined seat changes its desk, at the one it leaves; one that fails a test is refused with the result and the
detail of the first test of R4 or R5 it fails, and leaves the hall as it was; a list of entries takes them in order, and
its reply lists the refused ones, the first of them in the fault record; a bad count, or a seating run in progress,
refuses it whole (R3 to R5). That the list of refused entries counts positions from 0 is the model's choice (log entry
15). That a removed seat keeps its position and desk fields (log entry 10), that a flag above 1 is BAD_VALUE (R189, log
entry 38), and that a seating run that has ended is in progress until its reply is sent (log entry 47) are the model's
reading. -/
def Obligations.DefineSeatsTakesEntries : Prop :=
  (∀ (tag : Nat) (e : SeatEntry) (s : State), canTake (.defineSeats tag 1 [e]) s = true → s.seatMap.alloc = none →
    e.kind = 0 → e.seat < 960 → e.row < 40 → e.column < 64 → e.line < 8 → 1 ≤ e.address → e.address ≤ 120 →
    e.accessible ≤ 1 → e.reserved ≤ 1 → e.outOfService ≤ 1 →
    ((seatOf s e.seat).state = .undefined ∨ (seatOf s e.seat).state = .free ∨
      (seatOf s e.seat).state = .outOfService) →
    (∀ p ∈ definedSeats s, p.1 ≠ e.seat →
      ¬(p.2.row = e.row ∧ p.2.column = e.column) ∧ ¬(p.2.line = e.line ∧ p.2.address = e.address)) →
    ∃ t, exec (.defineSeats tag 1 [e]) s = .next t ∧
      Answered (okReply tag 0x10 [Field.num 1 0]) [] [.seatMap, .desk] s t ∧
      seatOf t e.seat =
        { row := e.row, column := e.column, line := e.line, address := e.address
          accessible := e.accessible == 1, reserved := e.reserved == 1, outOfService := e.outOfService == 1
          state := if e.outOfService = 1 then .outOfService else .free, candidate := none } ∧
      seatsKept [e.seat] s t ∧ t.seatMap.mode = s.seatMap.mode ∧ t.seatMap.cursors = s.seatMap.cursors ∧
      ((seatOf s e.seat).state = .undefined →
        SeatOwedAt e.line e.address s t) ∧
      ((seatOf s e.seat).state ≠ .undefined →
        ((seatOf s e.seat).line ≠ e.line ∨ (seatOf s e.seat).address ≠ e.address) →
        SeatOwedAt e.line e.address s t ∧ SeatOwedAt (seatOf s e.seat).line (seatOf s e.seat).address s t) ∧
      ((seatOf s e.seat).state ≠ .undefined →
        (seatOf s e.seat).line = e.line → (seatOf s e.seat).address = e.address → t.desk = s.desk)) ∧
  (∀ (tag : Nat) (e : SeatEntry) (s : State), canTake (.defineSeats tag 1 [e]) s = true → s.seatMap.alloc = none →
    e.kind = 1 → e.seat < 960 → ((seatOf s e.seat).state = .free ∨ (seatOf s e.seat).state = .outOfService) →
    ∃ t, exec (.defineSeats tag 1 [e]) s = .next t ∧
      Answered (okReply tag 0x10 [Field.num 1 0]) [] [.seatMap, .desk] s t ∧
      seatOf t e.seat = { seatOf s e.seat with
        accessible := false, reserved := false, outOfService := false, state := .undefined } ∧
      seatsKept [e.seat] s t ∧
      SeatOwedAt (seatOf s e.seat).line (seatOf s e.seat).address s t) ∧
  (∀ (tag : Nat) (e : SeatEntry) (s : State), canTake (.defineSeats tag 1 [e]) s = true → s.seatMap.alloc = none →
    e.kind = 1 → e.seat < 960 → (seatOf s e.seat).state = .undefined →
    ∃ t, exec (.defineSeats tag 1 [e]) s = .next t ∧ Answered (okReply tag 0x10 [Field.num 1 0]) [] [] s t) ∧
  (∀ (e : SeatEntry) (s : State) (fits occupied position desk : Bool),
    fits = decide (e.seat < 960 ∧ e.row < 40 ∧ e.column < 64 ∧ e.line < 8 ∧ 1 ≤ e.address ∧ e.address ≤ 120 ∧
      e.accessible ≤ 1 ∧ e.reserved ≤ 1 ∧ e.outOfService ≤ 1) →
    occupied = decide ((seatOf s e.seat).state = .assigned ∨ (seatOf s e.seat).state = .inUse ∨
      (seatOf s e.seat).state = .awaitingCollection) →
    position = decide (∃ p ∈ definedSeats s, p.1 ≠ e.seat ∧ p.2.row = e.row ∧ p.2.column = e.column) →
    desk = decide (∃ p ∈ definedSeats s, p.1 ≠ e.seat ∧ p.2.line = e.line ∧ p.2.address = e.address) →
    (e.kind = 0 →
      ((takeSeatEntry e s).1 = some (.badValue, .none_) ↔ fits = false) ∧
      ((takeSeatEntry e s).1 = some (.wrongState, .seatOccupied) ↔ fits = true ∧ occupied = true) ∧
      ((takeSeatEntry e s).1 = some (.exists_, .positionUsed) ↔ fits = true ∧ occupied = false ∧ position = true) ∧
      ((takeSeatEntry e s).1 = some (.exists_, .deskUsed) ↔
        fits = true ∧ occupied = false ∧ position = false ∧ desk = true) ∧
      ((takeSeatEntry e s).1 = none ↔ fits = true ∧ occupied = false ∧ position = false ∧ desk = false)) ∧
    (e.kind = 1 →
      ((takeSeatEntry e s).1 = some (.badValue, .none_) ↔ ¬ e.seat < 960) ∧
      ((takeSeatEntry e s).1 = some (.wrongState, .seatOccupied) ↔ e.seat < 960 ∧ occupied = true) ∧
      ((takeSeatEntry e s).1 = none ↔ e.seat < 960 ∧ occupied = false)) ∧
    (1 < e.kind → (takeSeatEntry e s).1 = some (.badValue, .none_)) ∧
    ((takeSeatEntry e s).1 ≠ none → (takeSeatEntry e s).2 = s)) ∧
  (∀ (k : Nat) (e : SeatEntry) (es : List SeatEntry) (s : State),
    (∀ r d, (takeSeatEntry e s).1 = some (r, d) →
      takeSeatEntries k (e :: es) s =
        (⟨k, r, d, e.seat⟩ :: (takeSeatEntries (k + 1) es s).1, (takeSeatEntries (k + 1) es s).2)) ∧
    ((takeSeatEntry e s).1 = none →
      takeSeatEntries k (e :: es) s = takeSeatEntries (k + 1) es (takeSeatEntry e s).2)) ∧
  (∀ (tag : Nat) (e : SeatEntry) (r : Result) (d : Detail) (s : State), canTake (.defineSeats tag 1 [e]) s = true →
    s.seatMap.alloc = none → (takeSeatEntry e s).1 = some (r, d) →
    ∃ t, exec (.defineSeats tag 1 [e]) s = .next t ∧
      AnsweredWith ⟨tag, 0x10, r,
        [Field.num 1 1, Field.num 1 0, Field.num 1 (resultCode r), Field.num 1 (detailCode d)], false⟩
        d (some e.seat) [] [] s t) ∧
  (∀ (tag count : Nat) (es : List SeatEntry) (s : State), canTake (.defineSeats tag count es) s = true →
    ∃ t, exec (.defineSeats tag count es) s = .next t ∧
      ((count = 0 ∨ 64 < count) → Refused tag 0x10 .badValue .none_ none s t) ∧
      (1 ≤ count → count ≤ 64 → s.seatMap.alloc.isSome = true → Refused tag 0x10 .busy .none_ none s t)) ∧
  (∀ (tag count : Nat) (es : List SeatEntry) (s : State), canTake (.defineSeats tag count es) s = true →
    s.seatMap.alloc = none → 1 ≤ count → count ≤ 64 →
    ∃ t, exec (.defineSeats tag count es) s = .next t ∧ keeps [.seatMap, .desk] s t ∧
      t.seatMap = (takeSeatEntries 0 es (popFrame s)).2.seatMap ∧ t.desk = (takeSeatEntries 0 es (popFrame s)).2.desk ∧
      t.link.replies = s.link.replies ++
        [⟨tag, 0x10, ((takeSeatEntries 0 es (popFrame s)).1.head?.map (·.result)).getD .ok,
          Field.num 1 (takeSeatEntries 0 es (popFrame s)).1.length :: (takeSeatEntries 0 es (popFrame s)).1.flatMap (fun r =>
            [Field.num 1 r.position, Field.num 1 (resultCode r.result), Field.num 1 (detailCode r.detail)]), false⟩] ∧
      ((takeSeatEntries 0 es (popFrame s)).1 = [] → t.link.fault = s.link.fault ∧ t.link.nonOk = s.link.nonOk) ∧
      (∀ e rest, (takeSeatEntries 0 es (popFrame s)).1 = e :: rest → t.link.nonOk = min 65535 (s.link.nonOk + 1) ∧
        t.link.fault = some ⟨0x10, tag, e.result, e.detail, some e.object, false, s.timer.clock⟩))

/-- SET_SEPARATION by the whole of R8: another mode value, a running ALLOCATE and a seat that names a candidate refuse it,
in that order; otherwise the mode is written, and GET_SEAT_MAP reports it first. That an ALLOCATE which has ended runs
until its reply is sent is the model's reading of R15 (log entry 47). -/
def Obligations.SeparationModeIsSet : Prop :=
  (∀ (tag mode : Nat) (s : State), canTake (.setSeparation tag mode) s = true →
    (2 < mode → ∃ t, exec (.setSeparation tag mode) s = .next t ∧ Refused tag 0x13 .badValue .none_ none s t) ∧
    (mode ≤ 2 → s.seatMap.alloc.isSome = true →
      ∃ t, exec (.setSeparation tag mode) s = .next t ∧ Refused tag 0x13 .busy .none_ none s t) ∧
    (mode ≤ 2 → s.seatMap.alloc = none → (∃ p ∈ definedSeats s, p.2.candidate.isSome = true) →
      ∃ t, exec (.setSeparation tag mode) s = .next t ∧ Refused tag 0x13 .wrongState .seatOccupied none s t)) ∧
  (∀ (tag : Nat) (s : State), canTake (.getSeatMap tag) s = true →
    ∃ t fs, exec (.getSeatMap tag) s = .next t ∧
      Answered (okReply tag 0x12
        (Field.num 1 (match s.seatMap.mode with | .noSep => 0 | .orthogonal => 1 | .full => 2) :: fs)) [] [] s t) ∧
  (∀ (tag mode : Nat) (m : SepMode) (s : State), canTake (.setSeparation tag mode) s = true →
    (mode = 0 ∧ m = .noSep ∨ mode = 1 ∧ m = .orthogonal ∨ mode = 2 ∧ m = .full) → s.seatMap.alloc = none →
    (∀ p ∈ definedSeats s, p.2.candidate = none) →
    ∃ t, exec (.setSeparation tag mode) s = .next t ∧ Answered (okReply tag 0x13 []) [] [.seatMap] s t ∧
      t.seatMap = { s.seatMap with mode := m })

/-- Whether two seats are adjacent, by the separation mode and their grid positions alone (R9). -/
def Obligations.AdjacencyFollowsTheGrid : Prop :=
  ∀ a b : Seat,
    adjacent .noSep a b = false ∧
    (adjacent .orthogonal a b = true ↔
      (a.row = b.row ∧ (a.column = b.column + 1 ∨ b.column = a.column + 1)) ∨
      (a.column = b.column ∧ (a.row = b.row + 1 ∨ b.row = a.row + 1))) ∧
    (adjacent .full a b = true ↔
      a.row ≤ b.row + 1 ∧ b.row ≤ a.row + 1 ∧ a.column ≤ b.column + 1 ∧ b.column ≤ a.column + 1 ∧
      ¬(a.row = b.row ∧ a.column = b.column))

/-- ALLOCATE begins a run and sets the cursor from its origin, or ends it at once where no candidate can be taken up; a step
of the run places the next listed candidate of the session on the seat the walk chooses, moves the cursor past it, and ends
the run with its count when it is done; or it ends the run with NO_SEAT, or with WRONG_STATE where the session has left
DEFINED and SEATING (R13 to R15). An ended run takes no further step. That its record stands until TRANSMIT_START takes its
reply is the model's reading of R15 (log entry 47), and so is that WRONG_STATE comes first where no LISTED candidate remains
either (log entry 22); the record's place in the roster is the model's own field (log entry
16). -/
def Obligations.AllocationRuns : Prop :=
  (∀ (tag slot count : Nat) (origin : Option Nat) (order : Nat) (d : FillOrder) (r : AllocRun) (s : State),
    canTake (.allocate tag slot count origin order) s = true →
    (order = 0 ∧ d = .rowMajor ∨ order = 1 ∧ d = .columnMajor) → slot < 8 →
    (∀ n, origin = some n → n < 960 ∧ (seatOf s n).state ≠ .undefined) →
    ((sessionOf s slot).state = .defined ∨ (sessionOf s slot).state = .seating) → s.seatMap.alloc = none →
    r = { slot := slot, order := d, requested := if count = 0 then 256 else count, seated := 0, lastTaken := none
          position := 0, tag := tag } →
    ∃ t, exec (.allocate tag slot count origin order) s = .next t ∧
      cursorOf t slot = (match origin with
        | none => cursorOf s slot
        | some n => ((seatOf s n).row, (seatOf s n).column)) ∧
      t.seatMap.seats = s.seatMap.seats ∧ t.seatMap.mode = s.seatMap.mode ∧
      ((∃ c ∈ s.roster, c.slot = slot ∧ c.state = .listed) →
        Accepted [.seatMap] s t ∧ t.seatMap.alloc = some r) ∧
      ((∀ c ∈ s.roster, c.slot = slot → c.state ≠ .listed) →
        Answered (longReply tag 0x14 [Field.num 2 0]) [] [.seatMap] s t ∧
        t.seatMap.alloc = some { r with ended := true })) ∧
  (∀ (r : AllocRun) (place n : Nat) (c : Candidate) (s : State), s.powered = true → s.seatMap.alloc = some r →
    r.ended = false →
    ((sessionOf s r.slot).state = .defined ∨ (sessionOf s r.slot).state = .seating) →
    allocNext s r = some (place, c) → findSeat s c r.order (cursorOf s r.slot) none = some n →
    ∃ t, exec .allocateStep s = .next t ∧ keeps [.seatMap, .roster, .desk] s t ∧
      candidateOf t c.number = some { c with
        seat := some n, seatSince := some { at_ := s.timer.clock }, state := .assigned
        stateSince := { at_ := s.timer.clock } } ∧
      othersKept c.number s t ∧
      seatOf t n = { seatOf s n with state := .assigned, candidate := some c.number } ∧ seatsKept [n] s t ∧
      SeatOwedAt (seatOf s n).line (seatOf s n).address s t ∧
      cursorOf t r.slot = nextPosition r.order ((seatOf s n).row, (seatOf s n).column) ∧
      ((t.seatMap.alloc = some
          { r with seated := r.seated + 1, lastTaken := some c.number, position := place + 1 } ∧
          t.link.replies = s.link.replies) ∨
        (t.seatMap.alloc = some
            { r with seated := r.seated + 1, lastTaken := some c.number, position := place + 1, ended := true } ∧
          t.link.replies = s.link.replies ++ [longReply r.tag 0x14 [Field.num 2 (r.seated + 1)]])) ∧
      (t.seatMap.alloc.any (·.ended) = true ↔
        r.seated + 1 = r.requested ∨
          allocNext t { r with seated := r.seated + 1, lastTaken := some c.number, position := place + 1 } = none)) ∧
  (∀ (r : AllocRun) (place : Nat) (c : Candidate) (s : State), s.powered = true → s.seatMap.alloc = some r →
    r.ended = false →
    ((sessionOf s r.slot).state = .defined ∨ (sessionOf s r.slot).state = .seating) →
    allocNext s r = some (place, c) → findSeat s c r.order (cursorOf s r.slot) none = none →
    ∃ t, exec .allocateStep s = .next t ∧ t.seatMap = { s.seatMap with alloc := some { r with ended := true } } ∧
      Failed ⟨r.tag, 0x14, .noSeat, [Field.num 4 c.number, Field.num 2 (r.requested - r.seated)], true⟩
        .none_ (some c.number) [.seatMap] s t) ∧
  (∀ (r : AllocRun) (s : State), s.powered = true → s.seatMap.alloc = some r → r.ended = false →
    (sessionOf s r.slot).state ≠ .defined → (sessionOf s r.slot).state ≠ .seating →
    ∃ t, exec .allocateStep s = .next t ∧ t.seatMap = { s.seatMap with alloc := some { r with ended := true } } ∧
      Failed ⟨r.tag, 0x14, .wrongState, [Field.num 2 r.seated, Field.num 2 (r.requested - r.seated)], true⟩
        .none_ (some r.slot) [.seatMap] s t) ∧
  (∀ (r : AllocRun) (s : State), s.powered = true → s.seatMap.alloc = some r → r.ended = false →
    ((sessionOf s r.slot).state = .defined ∨ (sessionOf s r.slot).state = .seating) → allocNext s r = none →
    ∃ t, exec .allocateStep s = .next t ∧ t.seatMap = { s.seatMap with alloc := some { r with ended := true } } ∧
      Concluded (longReply r.tag 0x14 [Field.num 2 r.seated]) [] [.seatMap] s t) ∧
  (∀ s : State, s.seatMap.alloc.all (·.ended) = true → exec .allocateStep s = .next s) ∧
  (∀ (r : AllocRun) (place : Nat) (c : Candidate) (s : State),
    allocNext s r = some (place, c) ↔
      r.position ≤ place ∧ s.roster[place]? = some c ∧ c.slot = r.slot ∧ c.state = .listed ∧
        ∀ i d, r.position ≤ i → i < place → s.roster[i]? = some d → ¬(d.slot = r.slot ∧ d.state = .listed))

/-- A seat a walk chooses passes every test of R10: it is FREE, in service, not reserved, its line available, accessible to
a candidate that needs it, and no neighbour names a candidate of the session (R10, R12). It is the first such seat the walk
comes to from its position, in the fill order and wrapping: for a candidate with NEEDS_ACCESS of the ACCESSIBLE seats alone, for
any other of the seats that are not ACCESSIBLE, and of all seats only where none of those is eligible; and none is chosen
exactly where no defined seat is eligible (R11, R12). The grid position after one, in both fill orders (R11). The AUTO walk of
MOVE_CANDIDATE is the ROW_MAJOR walk from the position after the candidate's own seat, that seat left out of test 7 (R20). -/
def Obligations.ChosenSeatIsEligible : Prop :=
  (∀ (s : State) (c : Candidate) (order : FillOrder) (at_ : Nat × Nat) (leftOut : Option Nat) (n : Nat),
    findSeat s c order at_ leftOut = some n →
    (∃ x, (n, x) ∈ definedSeats s) ∧
    (seatOf s n).state = .free ∧ (seatOf s n).outOfService = false ∧ (seatOf s n).reserved = false ∧
    (lineOf s (seatOf s n).line).state ≠ .fault ∧ (lineOf s (seatOf s n).line).state ≠ .test ∧
    (c.needsAccess = true → (seatOf s n).accessible = true) ∧
    ∀ m y, (m, y) ∈ definedSeats s → some m ≠ leftOut → adjacent s.seatMap.mode (seatOf s n) y = true →
      ∀ d, y.candidate.bind (candidateOf s) = some d → d.slot ≠ c.slot) ∧
  (∀ (s : State) (c : Candidate) (order : FillOrder) (at_ : Nat × Nat) (leftOut : Option Nat) (eligible : Nat → Prop),
    SeatsPlaced s → at_.1 < 40 → at_.2 < 64 →
    (∀ n, eligible n ↔ seatFailure s c.slot c.needsAccess leftOut n = none) →
    (c.needsAccess = true → ∀ n, findSeat s c order at_ leftOut = some n ↔
      FirstInWalk s order at_ (fun m => (seatOf s m).accessible = true ∧ eligible m) n) ∧
    (c.needsAccess = false →
      ((∃ m, (seatOf s m).state ≠ .undefined ∧ (seatOf s m).accessible = false ∧ eligible m) →
        ∀ n, findSeat s c order at_ leftOut = some n ↔
          FirstInWalk s order at_ (fun m => (seatOf s m).accessible = false ∧ eligible m) n) ∧
      ((∀ m, (seatOf s m).state ≠ .undefined → eligible m → (seatOf s m).accessible = true) →
        ∀ n, findSeat s c order at_ leftOut = some n ↔ FirstInWalk s order at_ eligible n)) ∧
    (findSeat s c order at_ leftOut = none ↔ ∀ n, (seatOf s n).state ≠ .undefined → ¬ eligible n)) ∧
  (∀ r c : Nat, r < 40 → c < 64 →
    (c < 63 → nextPosition .rowMajor (r, c) = (r, c + 1)) ∧
    (r < 39 → nextPosition .rowMajor (r, 63) = (r + 1, 0)) ∧
    (r < 39 → nextPosition .columnMajor (r, c) = (r + 1, c)) ∧
    (c < 63 → nextPosition .columnMajor (39, c) = (0, c + 1)) ∧
    nextPosition .rowMajor (39, 63) = (0, 0) ∧ nextPosition .columnMajor (39, 63) = (0, 0)) ∧
  (∀ (s : State) (c : Candidate),
    (c.seat = none → autoSeat s c = none) ∧
    (∀ own, c.seat = some own → autoSeat s c =
      findSeat s c .rowMajor (nextPosition .rowMajor ((seatOf s own).row, (seatOf s own).column)) (some own)))

/-- ASSIGN_SEAT places a LISTED candidate on an eligible seat, and UNASSIGN undoes an assignment; both name the other side
in the same step and owe SEAT at the desk (R2, R18, R19). The tests 2 to 7 of R10 in their order: the first that a seat fails
gives the detail of the refusal, NO_SEAT, whose object is the seat, and for ADJACENT the lowest-numbered neighbouring seat that
names a candidate of the session (R10, R18). That the CANDIDATE_STATE notice of UNASSIGN carries no seat is the
model's reading (log entry 21). -/
def Obligations.AssignAndUnassign : Prop :=
  (∀ (tag number n : Nat) (c : Candidate) (s : State), canTake (.assignSeat tag number n) s = true → n < 960 →
    s.seatMap.alloc = none → candidateOf s number = some c → (seatOf s n).state ≠ .undefined → c.state = .listed →
    c.absencePending = false →
    ((sessionOf s c.slot).state = .defined ∨ (sessionOf s c.slot).state = .seating ∨ isRunning (sessionOf s c.slot)) →
    seatFailure s c.slot c.needsAccess none n = none →
    ∃ t, exec (.assignSeat tag number n) s = .next t ∧
      Answered (okReply tag 0x15 [])
        [.candidateState number c.slot (some n) .listed .assigned .host s.timer.clock] [.seatMap, .roster, .desk] s t ∧
      candidateOf t number = some { c with
        seat := some n, seatSince := some { at_ := s.timer.clock }, state := .assigned
        stateSince := { at_ := s.timer.clock } } ∧
      othersKept number s t ∧ seatOf t n = { seatOf s n with state := .assigned, candidate := some number } ∧
      seatsKept [n] s t ∧ t.seatMap.cursors = s.seatMap.cursors ∧
      SeatOwedAt (seatOf s n).line (seatOf s n).address s t) ∧
  (∀ (tag number n : Nat) (c : Candidate) (s : State), canTake (.unassign tag number) s = true →
    candidateOf s number = some c → c.state = .assigned → c.absencePending = false → c.seat = some n →
    ∃ t, exec (.unassign tag number) s = .next t ∧
      Answered (okReply tag 0x16 [])
        [.candidateState number c.slot none .assigned .listed .host s.timer.clock] [.seatMap, .roster, .desk] s t ∧
      candidateOf t number = some { c with
        seat := none, seatSince := none, state := .listed, stateSince := { at_ := s.timer.clock } } ∧
      othersKept number s t ∧
      seatOf t n = { seatOf s n with
        state := if (seatOf s n).outOfService then .outOfService else .free, candidate := none } ∧
      seatsKept [n] s t ∧ t.seatMap.cursors = s.seatMap.cursors ∧ t.seatMap.alloc = s.seatMap.alloc ∧
      SeatOwedAt (seatOf s n).line (seatOf s n).address s t) ∧
  (∀ (s : State) (slot n : Nat) (needsAccess : Bool) (leftOut : Option Nat) (x : Seat) (available accessOk : Prop),
    x = seatOf s n → (available ↔ (lineOf s x.line).state ≠ .fault ∧ (lineOf s x.line).state ≠ .test) →
    (accessOk ↔ (needsAccess = true → x.accessible = true)) →
    (seatFailure s slot needsAccess leftOut n = some .seatOutOfService ↔ x.outOfService = true) ∧
    (seatFailure s slot needsAccess leftOut n = some .seatTaken ↔ x.outOfService = false ∧ x.state ≠ .free) ∧
    (seatFailure s slot needsAccess leftOut n = some .seatReserved ↔
      x.outOfService = false ∧ x.state = .free ∧ x.reserved = true) ∧
    (seatFailure s slot needsAccess leftOut n = some .lineUnavailable ↔
      x.outOfService = false ∧ x.state = .free ∧ x.reserved = false ∧ ¬ available) ∧
    (seatFailure s slot needsAccess leftOut n = some .notAccessible ↔
      x.outOfService = false ∧ x.state = .free ∧ x.reserved = false ∧ available ∧ ¬ accessOk) ∧
    (seatFailure s slot needsAccess leftOut n = some .adjacent ↔
      x.outOfService = false ∧ x.state = .free ∧ x.reserved = false ∧ available ∧ accessOk ∧
        ∃ m, Neighbour s slot leftOut n m) ∧
    (seatFailure s slot needsAccess leftOut n = none ↔
      x.outOfService = false ∧ x.state = .free ∧ x.reserved = false ∧ available ∧ accessOk ∧
        ∀ m, ¬ Neighbour s slot leftOut n m)) ∧
  (∀ (tag number n : Nat) (c : Candidate) (d : Detail) (s : State), canTake (.assignSeat tag number n) s = true →
    n < 960 → s.seatMap.alloc = none → candidateOf s number = some c → (seatOf s n).state ≠ .undefined →
    c.state = .listed → c.absencePending = false →
    ((sessionOf s c.slot).state = .defined ∨ (sessionOf s c.slot).state = .seating ∨ isRunning (sessionOf s c.slot)) →
    seatFailure s c.slot c.needsAccess none n = some d →
    ∃ t, exec (.assignSeat tag number n) s = .next t ∧
      (d ≠ .adjacent → Refused tag 0x15 .noSeat d (some n) s t) ∧
      (d = .adjacent → ∀ m, Neighbour s c.slot none n m → (∀ k, Neighbour s c.slot none n k → m ≤ k) →
        Refused tag 0x15 .noSeat .adjacent (some m) s t))

/-- MOVE_CANDIDATE empties the old seat, retired or not, and fills the new one in one step: an ASSIGNED or PRESENT candidate
is ASSIGNED at it, a WRITING or RESTING one MOVING with its rest closed (R20 to R22). -/
def Obligations.MoveChangesSeats : Prop :=
  ∀ (tag number retire old n : Nat) (target : Option Nat) (c : Candidate) (s : State),
    canTake (.moveCandidate tag number target retire) s = true → retire ≤ 1 → s.seatMap.alloc = none →
    candidateOf s number = some c → c.seat = some old → old ≠ n →
    (c.state = .assigned ∧ c.absencePending = false ∨ c.state = .present ∨ c.state = .writing ∨ c.state = .resting) →
    ((target = some n ∧ n < 960 ∧ (seatOf s n).state ≠ .undefined ∧
        seatFailure s c.slot c.needsAccess (some old) n = none) ∨
      (target = none ∧ autoSeat s c = some n)) →
    ∃ t ns, exec (.moveCandidate tag number target retire) s = .next t ∧
      Answered (okReply tag 0x17 [Field.num 2 n]) ns [.seatMap, .roster, .desk] s t ∧ othersKept number s t ∧
      seatsKept [old, n] s t ∧ t.seatMap.cursors = s.seatMap.cursors ∧
      (seatOf t old).candidate = none ∧
      (seatOf t old).outOfService = ((seatOf s old).outOfService || retire == 1) ∧
      (seatOf t old).state = (if (seatOf s old).outOfService = true ∨ retire = 1 then .outOfService else .free) ∧
      (seatOf t n).candidate = some number ∧
      SeatOwedAt (seatOf s old).line (seatOf s old).address s t ∧
      SeatOwedAt (seatOf s n).line (seatOf s n).address s t ∧
      (c.state = .assigned ∨ c.state = .present → (seatOf t n).state = .assigned ∧
        candidateOf t number = some { c with
          seat := some n, seatSince := some { at_ := s.timer.clock }, arrival := none, state := .assigned
          stateSince := if c.state = .present then { at_ := s.timer.clock } else c.stateSince }) ∧
      (c.state = .writing ∨ c.state = .resting → (seatOf t n).state = .inUse ∧
        candidateOf t number = some { closeRest (sessionOf s c.slot) s.timer.clock c with
          seat := some n, seatSince := some { at_ := s.timer.clock }, state := .moving
          stateSince := { at_ := s.timer.clock }, moveStart := some s.timer.clock
          lastEffective := some s.timer.clock })

/-! ## The roster -/

/-- ADD_CANDIDATES: an entry that passes its tests joins the end of the roster LISTED, A rounded down to a multiple of 5
and B cut to 3,600; one that fails a test is refused with that test's result; a list takes its entries in order, and the
reply and the fault record name the refused and the clamped ones; a bad count and a full roster refuse it whole (R26,
R27). SET_CANDIDATE writes the named fields, clamped, and nothing else of a candidate whose time does not run; a seated
candidate keeps its session and access need; a LISTED one may change session, and the COLLECTING session it leaves is
closed where its other candidates are all settled (R28, R153). Of a candidate whose time runs E follows: END is owed where
E changes, a lowered B may raise REST_OVER, and an E lowered to the clock or before it in WRITING is reached at once (R28,
R41, R70). That the reply counts positions from 0 is the model's choice (log entry 15), and so is the order REST_OVER,
CANDIDATE_STATE and what follows (log entry 17); that the session end follows in the same step is its reading of R57 and
R70 (log entry 19), and that a NEEDS_ACCESS above 1, which R27's test does not name, is BAD_VALUE its reading of R186 and
R189 (log entry 38). -/
def Obligations.CandidatesAreAddedAndSet : Prop :=
  (
    (∀ (tag : Nat) (e : CandidateEntry) (clamped : Bool) (s : State), canTake (.addCandidates tag 1 [e]) s = true →
      1 ≤ e.number → e.number ≤ 99999999 → e.slot < 8 → e.needsAccess ≤ 1 → s.roster.length < 960 →
      candidateOf s e.number = none →
      ((sessionOf s e.slot).state = .defined ∨ (sessionOf s e.slot).state = .seating ∨ isRunning (sessionOf s e.slot)) →
      clamped = decide (¬(e.allowance ≤ 100 ∧ e.allowance % 5 = 0 ∧ e.restAllowance ≤ 3600)) →
      ∃ t, exec (.addCandidates tag 1 [e]) s = .next t ∧
        t.roster = s.roster ++
          [({ number := e.number, slot := e.slot, allowance := min 100 (e.allowance - e.allowance % 5)
              restAllowance := min 3600 e.restAllowance, needsAccess := e.needsAccess == 1
              stateSince := { at_ := s.timer.clock } } : Candidate)] ∧
        AnsweredWith
          ⟨tag, 0x20, if clamped then .clamped else .ok,
            if clamped then [Field.num 1 0, Field.num 1 1, Field.num 1 0] else [Field.num 1 0, Field.num 1 0], false⟩
          .valueClamped (some e.number) [] [.roster] s t) ∧
    (∀ (tag : Nat) (e : CandidateEntry) (r : Result) (s : State), canTake (.addCandidates tag 1 [e]) s = true →
      s.roster.length < 960 → entryFailure s e = some r →
      ∃ t, exec (.addCandidates tag 1 [e]) s = .next t ∧
        AnsweredWith ⟨tag, 0x20, r, [Field.num 1 1, Field.num 1 0, Field.num 1 (resultCode r), Field.num 1 0], false⟩
          .none_ (some e.number) [] [] s t) ∧
    (∀ (e : CandidateEntry) (s : State),
      (entryFailure s e = some .badValue ↔ ¬(1 ≤ e.number ∧ e.number ≤ 99999999 ∧ e.slot < 8 ∧ e.needsAccess ≤ 1)) ∧
      (entryFailure s e = some .wrongState ↔ 1 ≤ e.number ∧ e.number ≤ 99999999 ∧ e.slot < 8 ∧ e.needsAccess ≤ 1 ∧
        ¬((sessionOf s e.slot).state = .defined ∨ (sessionOf s e.slot).state = .seating ∨
          isRunning (sessionOf s e.slot))) ∧
      (entryFailure s e = some .exists_ ↔ 1 ≤ e.number ∧ e.number ≤ 99999999 ∧ e.slot < 8 ∧ e.needsAccess ≤ 1 ∧
        ((sessionOf s e.slot).state = .defined ∨ (sessionOf s e.slot).state = .seating ∨
          isRunning (sessionOf s e.slot)) ∧ candidateOf s e.number ≠ none) ∧
      (∀ r, entryFailure s e = some r → r = .badValue ∨ r = .wrongState ∨ r = .exists_)) ∧
    (∀ (k : Nat) (e : CandidateEntry) (es : List CandidateEntry) (s : State),
      (∀ r, entryFailure s e = some r →
        (takeCandidateEntries k (e :: es) s).1.refused =
          ⟨k, r, .none_, e.number⟩ :: (takeCandidateEntries (k + 1) es s).1.refused ∧
        (takeCandidateEntries k (e :: es) s).1.clamped = (takeCandidateEntries (k + 1) es s).1.clamped ∧
        (takeCandidateEntries k (e :: es) s).2 = (takeCandidateEntries (k + 1) es s).2) ∧
      (∀ u, entryFailure s e = none →
        u = { s with roster := s.roster ++
          [({ number := e.number, slot := e.slot, allowance := min 100 (e.allowance - e.allowance % 5)
              restAllowance := min 3600 e.restAllowance, needsAccess := e.needsAccess == 1
              stateSince := { at_ := s.timer.clock } } : Candidate)] } →
        (takeCandidateEntries k (e :: es) s).1.refused = (takeCandidateEntries (k + 1) es u).1.refused ∧
        (takeCandidateEntries k (e :: es) s).1.clamped =
          (if e.allowance ≤ 100 ∧ e.allowance % 5 = 0 ∧ e.restAllowance ≤ 3600 then [] else [(k, e.number)]) ++
          (takeCandidateEntries (k + 1) es u).1.clamped ∧
        (takeCandidateEntries k (e :: es) s).2 = (takeCandidateEntries (k + 1) es u).2)) ∧
    (∀ (tag count : Nat) (es : List CandidateEntry) (a : Additions) (s : State),
      canTake (.addCandidates tag count es) s = true →
      1 ≤ count → count ≤ 16 → s.roster.length + es.length ≤ 960 → a = (takeCandidateEntries 0 es (popFrame s)).1 →
      ∃ t r, exec (.addCandidates tag count es) s = .next t ∧ keeps [.roster] s t ∧
        t.roster = (takeCandidateEntries 0 es (popFrame s)).2.roster ∧ t.link.replies = s.link.replies ++ [r] ∧
        r = ⟨tag, 0x20,
          (a.refused.head?.map (·.result)).getD (if a.clamped = [] then .ok else .clamped),
          [Field.num 1 a.refused.length] ++
            a.refused.flatMap (fun e => [Field.num 1 e.position, Field.num 1 (resultCode e.result)]) ++
            [Field.num 1 a.clamped.length] ++ a.clamped.map (fun p => Field.num 1 p.1), false⟩ ∧
        AnsweredWith r (if a.refused = [] then .valueClamped else .none_)
          (if a.refused = [] then a.clamped.head?.map (·.2) else a.refused.head?.map (·.object)) [] [.roster] s t) ∧
    (∀ (tag count : Nat) (es : List CandidateEntry) (s : State), canTake (.addCandidates tag count es) s = true →
      ∃ t, exec (.addCandidates tag count es) s = .next t ∧
        ((count = 0 ∨ 16 < count) → Refused tag 0x20 .badValue .none_ none s t) ∧
        (1 ≤ count → count ≤ 16 → s.roster.length ≤ 960 → 960 < s.roster.length + es.length →
          Refused tag 0x20 .full .none_ (some (960 - s.roster.length)) s t))) ∧
  (
    ∀ (tag number : Nat) (a b access slot : Option Nat) (c d : Candidate) (res : Result) (s : State),
      canTake (.setCandidate tag number a b access slot) s = true → candidateOf s number = some c →
      (∀ n, access = some n → n ≤ 1) →
      (∀ k, slot = some k → k < 8 ∧
        ((sessionOf s k).state = .defined ∨ (sessionOf s k).state = .seating ∨ isRunning (sessionOf s k))) →
      (c.state = .listed ∨
        ((c.state = .assigned ∨ c.state = .present ∨ timeRuns c = true) ∧ access = none ∧ slot = none)) →
      d = { c with
        allowance := (match a with | none => c.allowance | some v => min v 100 / 5 * 5)
        restAllowance := (match b with | none => c.restAllowance | some v => min v 3600)
        needsAccess := (match access with | none => c.needsAccess | some v => v == 1), slot := slot.getD c.slot } →
      res = (if (a.all fun v => decide (v ≤ 100 ∧ v % 5 = 0)) && (b.all fun v => decide (v ≤ 3600)) then .ok
        else .clamped) →
      ∃ t, exec (.setCandidate tag number a b access slot) s = .next t ∧
        (timeRuns c = false → candidateOf t number = some d ∧ othersKept number s t) ∧
        (timeRuns c = false → (d.slot = c.slot ∨ (sessionOf s c.slot).state ≠ .collecting) →
          AnsweredWith ⟨tag, 0x21, res, [], false⟩ .valueClamped none [] [.roster] s t) ∧
        (d.slot ≠ c.slot → (sessionOf s c.slot).state = .collecting →
          (∀ e ∈ s.roster, e.number ≠ number → e.slot = c.slot →
            e.state = .collected ∨ e.state = .absent ∨ e.state = .withdrawn) →
          AnsweredWith ⟨tag, 0x21, res, [], false⟩ .valueClamped none
            [.sessionState c.slot (sessionOf s c.slot).paper .collecting .closed (sessionOf s c.slot).causes .collection
              s.timer.clock] [.roster, .timer, .coll] s t ∧
          sessionOf t c.slot = { sessionOf s c.slot with state := .closed } ∧ sessionsKept c.slot s t ∧
          openBundleOf t c.slot = none) ∧
        (d.slot ≠ c.slot → (sessionOf s c.slot).state = .collecting →
          (∃ e ∈ s.roster, e.number ≠ number ∧ e.slot = c.slot ∧
            ¬(e.state = .collected ∨ e.state = .absent ∨ e.state = .withdrawn)) →
          AnsweredWith ⟨tag, 0x21, res, [], false⟩ .valueClamped none [] [.roster] s t)) ∧
  (
    ∀ (tag number : Nat) (a b : Option Nat) (c d : Candidate) (x : Session) (due : Bool) (res : Result) (s : State),
      canTake (.setCandidate tag number a b none none) s = true → candidateOf s number = some c → timeRuns c = true →
      x = sessionOf s c.slot →
      due = decide (c.state = .resting ∧ c.restOverRaised = false ∧
        (match b with | none => c.restAllowance | some v => min v 3600) < c.restAllowance ∧
        (match b with | none => c.restAllowance | some v => min v 3600) ≤ runningRest s c) →
      d = { c with
        allowance := (match a with | none => c.allowance | some v => min v 100 / 5 * 5)
        restAllowance := (match b with | none => c.restAllowance | some v => min v 3600)
        restOverRaised := c.restOverRaised || due } →
      res = (if (a.all fun v => decide (v ≤ 100 ∧ v % 5 = 0)) && (b.all fun v => decide (v ≤ 3600)) then .ok
        else .clamped) →
      ∃ t, exec (.setCandidate tag number a b none none) s = .next t ∧
        (∀ n, computedEnd x s.timer.clock d ≠ computedEnd x s.timer.clock c → c.seat = some n →
          EndOwedAt (seatOf s n).line (seatOf s n).address s t) ∧
        ((computedEnd x s.timer.clock c ≤ computedEnd x s.timer.clock d ∨ x.state ≠ .writing ∨
            s.timer.clock < computedEnd x s.timer.clock d) →
          AnsweredWith ⟨tag, 0x21, res, [], false⟩ .valueClamped none
            (if due then [.restOver number c.seat d.restAllowance (runningRest s c)] else []) [.roster, .desk] s t ∧
          candidateOf t number = some d ∧ othersKept number s t ∧
          (computedEnd x s.timer.clock d = computedEnd x s.timer.clock c → t.desk = s.desk)) ∧
        (RosterSound s → computedEnd x s.timer.clock d < computedEnd x s.timer.clock c → x.state = .writing →
          computedEnd x s.timer.clock d ≤ s.timer.clock →
          (∃ ns, AnsweredWith ⟨tag, 0x21, res, [], false⟩ .valueClamped none
            ((if due then [.restOver number c.seat d.restAllowance (runningRest s c)] else []) ++
              .candidateState number c.slot c.seat c.state .finished .personalEnd s.timer.clock :: ns)
            [.roster, .seatMap, .timer, .desk] s t) ∧
          candidateOf t number = some { closeAway x s.timer.clock d with
            state := .finished, stateSince := { at_ := s.timer.clock }
            personalEnd := some (computedEnd x s.timer.clock d), endClamped := computedClamp x s.timer.clock d
            outAtEnd := c.outAtEnd || decide (c.state ≠ .writing) } ∧
          (∀ e ∈ s.roster, e.number ≠ number → (e.slot ≠ c.slot ∨ e.state ≠ .assigned) →
            candidateOf t e.number = some e) ∧
          (SeatsAgree s → ∀ n, c.seat = some n → seatOf t n = { seatOf s n with state := .awaitingCollection }) ∧
          (c.absencePending = false → SessionFollows number c.slot s t)))

/-- WITHDRAW, LEAVE_CANDIDATE and MARK_ABSENT (R30 to R32); the last two end the session where that makes the last
condition of R57 true. WITHDRAW of a LISTED candidate whose COLLECTING session has every other candidate settled closes
it, and its open bundle with it (R153). That the CANDIDATE_STATE notice of WITHDRAW carries no seat is the model's reading
(log entry 21), and that it comes before the SESSION_STATE of the close is its choice (log entry 17). -/
def Obligations.HostSettlesCandidates : Prop :=
  (∀ (tag number : Nat) (c : Candidate) (s : State), canTake (.withdraw tag number) s = true →
    candidateOf s number = some c → (c.state = .listed ∨ c.state = .assigned ∨ c.state = .present) →
    c.absencePending = false →
    ∃ t, exec (.withdraw tag number) s = .next t ∧ othersKept number s t ∧
      candidateOf t number = some { c with
        seat := none, seatSince := none, state := .withdrawn, stateSince := { at_ := s.timer.clock } } ∧
      (∀ n, c.seat = some n →
        (seatOf t n).candidate = none ∧ SeatOwedAt (seatOf s n).line (seatOf s n).address s t) ∧
      seatsKept c.seat.toList s t ∧ sessionsKept c.slot s t ∧
      ((c.state ≠ .listed ∨ (sessionOf s c.slot).state ≠ .collecting ∨
          ∃ e ∈ s.roster, e.number ≠ number ∧ e.slot = c.slot ∧
            ¬(e.state = .collected ∨ e.state = .absent ∨ e.state = .withdrawn)) →
        Answered (okReply tag 0x24 [])
          [.candidateState number c.slot none c.state .withdrawn .host s.timer.clock] [.seatMap, .roster, .desk] s t) ∧
      (c.state = .listed → (sessionOf s c.slot).state = .collecting →
        (∀ e ∈ s.roster, e.number ≠ number → e.slot = c.slot →
          e.state = .collected ∨ e.state = .absent ∨ e.state = .withdrawn) →
        Answered (okReply tag 0x24 [])
          [.candidateState number c.slot none .listed .withdrawn .host s.timer.clock,
            .sessionState c.slot (sessionOf s c.slot).paper .collecting .closed (sessionOf s c.slot).causes .collection
              s.timer.clock] [.seatMap, .roster, .desk, .timer, .coll] s t ∧
        sessionOf t c.slot = { sessionOf s c.slot with state := .closed } ∧ openBundleOf t c.slot = none ∧
        (∀ h b, openBundleOf s c.slot = some h → bundleOf s h = some b → bundleOf t h = some { b with
          isOpen := false, closed := some s.timer.clock, closeCause := some .sessionClosed }) ∧
        (∀ h, openBundleOf s c.slot ≠ some h → bundleOf t h = bundleOf s h) ∧
        (∀ k, k ≠ c.slot → openBundleOf t k = openBundleOf s k) ∧ (∀ k, nextBundleOf t k = nextBundleOf s k) ∧
        t.coll.covers = s.coll.covers ∧ t.coll.sweep = s.coll.sweep)) ∧
  (∀ (tag number : Nat) (c : Candidate) (s : State), canTake (.leaveCandidate tag number) s = true → RosterSound s →
    SeatsAgree s →
    candidateOf s number = some c → timeRuns c = true →
    ∃ t ns d, exec (.leaveCandidate tag number) s = .next t ∧
      d = freezeEnd (sessionOf s c.slot) s.timer.clock (closeAway (sessionOf s c.slot) s.timer.clock c) ∧
      Answered (okReply tag 0x25 [Field.opt 4 d.personalEnd]) ns [.seatMap, .roster, .desk, .timer] s t ∧
      candidateOf t number = some { d with
        state := .left, stateSince := { at_ := s.timer.clock }, lastEffective := some s.timer.clock } ∧
      (∀ n, c.seat = some n → (seatOf t n).state = .awaitingCollection ∧ (seatOf t n).candidate = some number) ∧
      (∀ e ∈ s.roster, e.number ≠ number → (e.slot ≠ c.slot ∨ e.state ≠ .assigned) →
        candidateOf t e.number = some e) ∧
      sessionsKept c.slot s t ∧ (c.absencePending = false → SessionFollows number c.slot s t)) ∧
  (∀ (tag number : Nat) (c : Candidate) (s : State), canTake (.markAbsent tag number) s = true → RosterSound s →
    candidateOf s number = some c → c.state = .assigned → c.absencePending = true →
    ∃ t ns, exec (.markAbsent tag number) s = .next t ∧
      Answered (okReply tag 0x26 []) ns [.seatMap, .roster, .desk, .timer] s t ∧
      candidateOf t number = some { c with
        seat := none, seatSince := none, absencePending := false, state := .absent
        stateSince := { at_ := s.timer.clock } } ∧
      (∀ n, c.seat = some n →
        (seatOf t n).candidate = none ∧ SeatOwedAt (seatOf s n).line (seatOf s n).address s t) ∧
      (∀ e ∈ s.roster, e.number ≠ number → (e.slot ≠ c.slot ∨ e.state ≠ .assigned) →
        candidateOf t e.number = some e) ∧
      sessionsKept c.slot s t ∧ SessionFollows number c.slot s t)

/-- REST_OUT and REST_IN of a candidate in its writing time: the rest runs from the effective instant and closes into T_r
with its unpaused seconds, END owed where E changes; of a candidate that is not WRITING, or not RESTING, they are refused
and change only its last effective instant (R33, R35, R39, R40). REST_OVER is raised once per rest interval, when the
running rest of a RESTING candidate has reached B (R41). -/
def Obligations.RestIsCountedAndReported : Prop :=
  (
    ∀ (line address n stamp eff : Nat) (c : Candidate) (s : State), seatAt s line address = some n →
      (seatOf s n).candidate = some c.number → candidateOf s c.number = some c → stampBeforeOpt stamp c.seatSince = false →
      eff = min (max stamp (c.lastEffective.getD 0)) s.timer.clock →
      (c.state = .writing →
        ((sessionOf s c.slot).state = .writing ∨ (sessionOf s c.slot).state = .paused) →
        ∃ t d, t = handOn line address .restOut 0 stamp s ∧ keeps [.roster, .desk] s t ∧ othersKept c.number s t ∧
          candidateOf t c.number = some d ∧
          d = { c with
            state := .resting, stateSince := { at_ := s.timer.clock }, restStart := some eff, lastEffective := some eff
            restOverRaised := decide (c.restAllowance ≤ c.restTaken + unpaused (sessionOf s c.slot) eff s.timer.clock) } ∧
          DisplayOwedAt line address .accepted s t ∧
          t.link = linkAfter
            (.candidateState c.number c.slot c.seat .writing .resting .desk s.timer.clock ::
              if d.restOverRaised = true then
                [.restOver c.number c.seat c.restAllowance
                  (c.restTaken + unpaused (sessionOf s c.slot) eff s.timer.clock)]
              else []) s) ∧
      (∀ r, c.state = .resting → c.restStart = some r →
        ∃ t, t = handOn line address .restIn 0 stamp s ∧ keeps [.roster, .desk] s t ∧ othersKept c.number s t ∧
          candidateOf t c.number = some { c with
            state := .writing, stateSince := { at_ := s.timer.clock }, restStart := none, restOverRaised := false
            restTaken := c.restTaken + unpaused (sessionOf s c.slot) r eff, lastEffective := some eff } ∧
          DisplayOwedAt line address .accepted s t ∧
          t.link = linkAfter [.candidateState c.number c.slot c.seat .resting .writing .desk s.timer.clock] s ∧
          (computedEnd (sessionOf s c.slot) s.timer.clock
              { c with restTaken := c.restTaken + unpaused (sessionOf s c.slot) r eff } ≠
            computedEnd (sessionOf s c.slot) s.timer.clock c →
            EndOwedAt line address s t)) ∧
      (∀ kind code,
        (kind = .restOut ∧ code = .notWriting ∧
            (c.state = .assigned ∨ c.state = .present ∨ c.state = .resting ∨ c.state = .moving) ∨
          kind = .restIn ∧ code = .notResting ∧
            (c.state = .assigned ∨ c.state = .present ∨ c.state = .writing ∨ c.state = .moving)) →
        ∃ t, t = handOn line address kind 0 stamp s ∧ keeps [.roster, .desk] s t ∧ t.link = s.link ∧
          candidateOf t c.number = some { c with lastEffective := some eff } ∧ othersKept c.number s t ∧
          DisplayOwedAt line address code s t)) ∧
  (
    ∀ (number : Nat) (c : Candidate) (s : State), s.powered = true → candidateOf s number = some c →
      (sessionOf s c.slot).state ≠ .paused → c.state = .resting → c.restAllowance ≤ runningRest s c →
      (c.restOverRaised = false →
        ∃ t, exec (.restOver number) s = .next t ∧
          Happened [.restOver number c.seat c.restAllowance (runningRest s c)] [.roster] s t ∧
          candidateOf t number = some { c with restOverRaised := true } ∧ othersKept number s t) ∧
      (c.restOverRaised = true → exec (.restOver number) s = .next s))

/-! ## Desk events -/

/-- A sign-in by the candidate its seat names, before writing starts: PRESENT, arrived at the effective instant, its seat
IN_USE, ACCEPTED owed at the desk (R33, R36, R37). In writing it is taken until the late cutoff: WRITING, its E computed
and END owed, ABSENCE_PENDING cleared (R37, R38, R45); of a MOVING candidate it closes the move, its credit counted (R37),
and where that lowers E to the clock or before it, E is reached at once and the session end follows (R57, R67, R70): that
both come in the sign-in's own step is the model's reading (log entry 19). A sign-in that fails a test of R36 or R37
changes no record but the last effective instant of the card's candidate, shows the code of the first test failed, and
raises SIGN_IN_REFUSED: an unknown card, a withdrawn candidate, one whose time is over, one already signed in here or at
another seat, another seat's, one whose session is not open, one too late. One stamped before its candidate's time was
over is only reported (R34). -/
def Obligations.SignInIsJudged : Prop :=
  (
    ∀ (line address n stamp : Nat) (c : Candidate) (s : State), seatAt s line address = some n →
      1 ≤ c.number → candidateOf s c.number = some c → c.seat = some n → c.state = .assigned →
      (judgedState (sessionOf s c.slot) = .seating ∨ judgedState (sessionOf s c.slot) = .reading) →
      ∃ t eff, t = handOn line address .signIn c.number stamp s ∧
        eff = min (max stamp (c.lastEffective.getD 0)) s.timer.clock ∧ keeps [.seatMap, .roster, .desk] s t ∧
        candidateOf t c.number = some { c with
          state := .present, stateSince := { at_ := s.timer.clock }, arrival := some eff, lastEffective := some eff } ∧
        othersKept c.number s t ∧ seatOf t n = { seatOf s n with state := .inUse } ∧ seatsKept [n] s t ∧
        DisplayOwedAt line address .accepted s t ∧
        t.link = (raise (.candidateState c.number c.slot (some n) .assigned .present .desk s.timer.clock) s).link) ∧
  (
    ∀ (line address n stamp eff : Nat) (c : Candidate) (x : Session) (s : State), seatAt s line address = some n →
      1 ≤ c.number → candidateOf s c.number = some c → c.seat = some n → c.state = .assigned → x = sessionOf s c.slot →
      (x.state = .writing ∨ x.state = .paused ∧ x.target = some .writing) →
      eff = min (max stamp (c.lastEffective.getD 0)) s.timer.clock →
      (∀ k, x.cutoffTaken = some k → eff < k) →
      (x.cutoffTaken = none → eff < x.start + x.reading + totalPause x s.timer.clock + x.late) →
      ∃ t, t = handOn line address .signIn c.number stamp s ∧ keeps [.seatMap, .roster, .desk] s t ∧
        candidateOf t c.number = some { c with
          state := .writing, stateSince := { at_ := s.timer.clock }, arrival := some eff, lastEffective := some eff
          absencePending := false } ∧
        othersKept c.number s t ∧ seatOf t n = { seatOf s n with state := .inUse } ∧ seatsKept [n] s t ∧
        EndOwedAt line address s t ∧
        DisplayOwedAt line address .accepted s t ∧
        t.link = (raise (.candidateState c.number c.slot (some n) .assigned .writing .desk s.timer.clock) s).link) ∧
  (
    ∀ (line address n stamp eff m : Nat) (c d : Candidate) (x : Session) (s : State), seatAt s line address = some n →
      1 ≤ c.number → candidateOf s c.number = some c → c.seat = some n → c.state = .moving → c.moveStart = some m →
      x = sessionOf s c.slot → eff = min (max stamp (c.lastEffective.getD 0)) s.timer.clock →
      d = { c with
        state := .writing, stateSince := { at_ := s.timer.clock }, lastEffective := some eff, moveStart := none
        moveCredit := c.moveCredit + min 600 (unpaused x m eff) } →
      ∃ t, t = handOn line address .signIn c.number stamp s ∧ EndOwedAt line address s t ∧
        DisplayOwedAt line address .accepted s t ∧
        ((x.state ≠ .writing ∨ s.timer.clock < computedEnd x s.timer.clock d ∨
            computedEnd x s.timer.clock c ≤ computedEnd x s.timer.clock d) →
          keeps [.roster, .desk] s t ∧ candidateOf t c.number = some d ∧ othersKept c.number s t ∧
          t.link = (raise (.candidateState c.number c.slot (some n) .moving .writing .desk s.timer.clock) s).link) ∧
        (RosterSound s → x.state = .writing → computedEnd x s.timer.clock d ≤ s.timer.clock →
          computedEnd x s.timer.clock d < computedEnd x s.timer.clock c →
          keeps [.seatMap, .roster, .timer, .desk] s t ∧
          candidateOf t c.number = some { closeAway x s.timer.clock d with
            state := .finished, personalEnd := some (computedEnd x s.timer.clock d)
            endClamped := computedClamp x s.timer.clock d } ∧
          (SeatsAgree s → (seatOf t n).state = .awaitingCollection) ∧
          (c.absencePending = false → SessionFollows c.number c.slot s t))) ∧
  (
    (∀ (line address n card stamp : Nat) (s : State), seatAt s line address = some n →
      (card = 0 ∨ candidateOf s card = none) →
      ∃ t, t = handOn line address .signIn card stamp s ∧ keeps [.desk] s t ∧
        DisplayOwedAt line address .unknown s t ∧
        t.link = (raise (.signInRefused .unknown n card (min stamp s.timer.clock) none) s).link) ∧
    (∀ (line address n stamp eff : Nat) (held : Option Nat) (c : Candidate) (x : Session) (code : DisplayCode) (s : State),
      seatAt s line address = some n →
      1 ≤ c.number → candidateOf s c.number = some c → x = sessionOf s c.slot →
      eff = min (max stamp (c.lastEffective.getD 0)) s.timer.clock →
      (c.state = .withdrawn ∧ code = .withdrawn ∧ held = none ∨
        c.state = .absent ∧ stampBefore stamp c.stateSince = false ∧ code = .refusedLate ∧ held = none ∨
        (c.state = .finished ∨ c.state = .left ∨ c.state = .collected) ∧ stampBefore stamp c.stateSince = false ∧
          code = .finished ∧ held = none ∨
        (c.state = .present ∨ c.state = .writing ∨ c.state = .resting) ∧ held.isSome = true ∧ c.seat = held ∧
          held ≠ some n ∧ code = .duplicate ∨
        (c.state = .listed ∨ c.state = .assigned ∨ c.state = .moving) ∧ c.seat ≠ some n ∧ code = .wrongSeat ∧
          held = none ∨
        (c.state = .present ∨ c.state = .writing ∨ c.state = .resting) ∧ c.seat = some n ∧ code = .alreadyIn ∧
          held = none ∨
        c.state = .assigned ∧ c.seat = some n ∧ code = .notOpen ∧ held = none ∧
          x.state ≠ .seating ∧ x.state ≠ .reading ∧ x.state ≠ .writing ∧ x.state ≠ .paused ∨
        c.state = .assigned ∧ c.seat = some n ∧ code = .refusedLate ∧ held = none ∧
          (x.state = .writing ∨ x.state = .paused ∧ x.target = some .writing) ∧
          (∀ k, x.cutoffTaken = some k → k ≤ eff) ∧
          (x.cutoffTaken = none → x.start + x.reading + totalPause x s.timer.clock + x.late ≤ eff)) →
      ∃ t, t = handOn line address .signIn c.number stamp s ∧ keeps [.roster, .desk] s t ∧
        candidateOf t c.number = some { c with lastEffective := some eff } ∧ othersKept c.number s t ∧
        DisplayOwedAt line address code s t ∧
        t.link = (raise (.signInRefused code n c.number eff held) s).link) ∧
    (∀ (line address n stamp : Nat) (c : Candidate) (s : State), seatAt s line address = some n →
      1 ≤ c.number → candidateOf s c.number = some c →
      (c.state = .finished ∨ c.state = .left ∨ c.state = .absent ∨ c.state = .collected) →
      c.stateSince.earlier = false → stamp < c.stateSince.at_ →
      ∃ t, t = handOn line address .signIn c.number stamp s ∧ keeps [] s t ∧
        t.link = (raise (.lateEvent n (some c.number) .signIn stamp c.state c.stateSince.at_ .afterState) s).link))

/-- A LEAVE in the allowed time freezes E and makes the candidate LEFT, its session ended where that makes the last
condition of R57 true; before the bar, in the lock and in a pause it is refused (R42), as it is of a candidate that does not
write; a CALL only raises its notice, whatever its stamp and its candidate's state, one stamped before the candidate took
the seat included (R34, R43); a DECLARE of a FINISHED or LEFT candidate is its declaration, any other is refused (R139). A
REST_OUT, REST_IN or LEAVE from a seat that names nobody is answered NOT_SEATED; one stamped before the candidate took the
seat, or before its time was over, is only reported by LATE_EVENT; one after its time was over is refused FINISHED (R34). -/
def Obligations.LeaveCallAndDeclare : Prop :=
  (∀ (line address n stamp eff : Nat) (c : Candidate) (s : State), seatAt s line address = some n → RosterSound s →
    (seatOf s n).candidate = some c.number → candidateOf s c.number = some c → stampBeforeOpt stamp c.seatSince = false →
    eff = min (max stamp (c.lastEffective.getD 0)) s.timer.clock →
    (∀ ws, c.state = .writing → (sessionOf s c.slot).state = .writing →
      (sessionOf s c.slot).writingStart = some ws → ws + (sessionOf s c.slot).bar ≤ eff →
      eff + (sessionOf s c.slot).lock < computedEnd (sessionOf s c.slot) s.timer.clock c →
      ∃ t, t = handOn line address .leave 0 stamp s ∧ keeps [.timer, .seatMap, .roster, .desk] s t ∧
        candidateOf t c.number = some { c with
          state := .left, stateSince := { at_ := s.timer.clock }, lastEffective := some eff
          personalEnd := some (computedEnd (sessionOf s c.slot) s.timer.clock c)
          endClamped := computedClamp (sessionOf s c.slot) s.timer.clock c } ∧
        DisplayOwedAt line address .accepted s t ∧
        (∀ e ∈ s.roster, e.number ≠ c.number → (e.slot ≠ c.slot ∨ e.state ≠ .assigned) →
          candidateOf t e.number = some e) ∧
        (SeatsAgree s → ∀ m, c.seat = some m → (seatOf t m).state = .awaitingCollection) ∧
        (c.absencePending = false → SessionFollows c.number c.slot s t)) ∧
    (∀ code, c.state = .writing →
      ((sessionOf s c.slot).state = .paused ∧ code = .refusedPaused ∨
        (sessionOf s c.slot).state = .writing ∧
          (eff < (sessionOf s c.slot).writingStart.getD 0 + (sessionOf s c.slot).bar ∧ code = .refusedEarly ∨
           (sessionOf s c.slot).writingStart.getD 0 + (sessionOf s c.slot).bar ≤ eff ∧
             computedEnd (sessionOf s c.slot) s.timer.clock c ≤ eff + (sessionOf s c.slot).lock ∧
             code = .refusedLocked)) →
      ∃ t, t = handOn line address .leave 0 stamp s ∧ keeps [.roster, .desk] s t ∧ t.link = s.link ∧
        candidateOf t c.number = some { c with lastEffective := some eff } ∧
        DisplayOwedAt line address code s t) ∧
    ((c.state = .assigned ∨ c.state = .present ∨ c.state = .resting ∨ c.state = .moving) →
      ∃ t, t = handOn line address .leave 0 stamp s ∧ keeps [.roster, .desk] s t ∧ t.link = s.link ∧
        candidateOf t c.number = some { c with lastEffective := some eff } ∧ othersKept c.number s t ∧
        DisplayOwedAt line address .notWriting s t) ∧
    (∀ count, 1 ≤ count → (c.state = .finished ∨ c.state = .left) → stampBefore stamp c.stateSince = false →
      ∃ t, t = handOn line address .declare_ count stamp s ∧ keeps [.roster, .desk] s t ∧ othersKept c.number s t ∧
        candidateOf t c.number = some { c with declared := some count, lastEffective := some eff } ∧
        DisplayOwedAt line address .accepted s t) ∧
    (∀ count code,
      (¬(c.state = .finished ∨ c.state = .left) ∧ code = .notFinished ∨
        (c.state = .finished ∨ c.state = .left) ∧ c.stateSince.earlier = false ∧ stamp < c.stateSince.at_ ∧
          code = .notFinished ∨
        (c.state = .finished ∨ c.state = .left) ∧ stampBefore stamp c.stateSince = false ∧ count = 0 ∧
          code = .badCount) →
      ∃ t, t = handOn line address .declare_ count stamp s ∧ keeps [.roster, .desk] s t ∧ t.link = s.link ∧
        candidateOf t c.number = some { c with lastEffective := some eff } ∧ othersKept c.number s t ∧
        DisplayOwedAt line address code s t)) ∧
  (∀ (line address n stamp : Nat) (kind : EventKind) (s : State), seatAt s line address = some n →
    (seatOf s n).candidate = none →
    ((kind = .restOut ∨ kind = .restIn ∨ kind = .leave ∨ kind = .declare_) →
      ∃ t, t = handOn line address kind 0 stamp s ∧ keeps [.desk] s t ∧ t.link = s.link ∧
        DisplayOwedAt line address .notSeated s t) ∧
    (kind = .call →
      ∃ t, t = handOn line address kind 0 stamp s ∧ keeps [] s t ∧
        t.link = (raise (.deskCall n line address none none (min stamp s.timer.clock)) s).link)) ∧
  (∀ (line address n stamp : Nat) (kind : EventKind) (c : Candidate) (s : State), seatAt s line address = some n →
    (seatOf s n).candidate = some c.number → candidateOf s c.number = some c →
    (kind = .call →
      ∃ t, t = handOn line address kind 0 stamp s ∧ keeps [] s t ∧
        t.link = (raise (.deskCall n line address (some c.number) (some c.state)
          (min (max stamp (c.lastEffective.getD 0)) s.timer.clock)) s).link) ∧
    (∀ i, c.seatSince = some i → i.earlier = false → stamp < i.at_ →
      (kind = .restOut ∨ kind = .restIn ∨ kind = .leave ∨ kind = .declare_) →
      ∃ t, t = handOn line address kind 0 stamp s ∧ keeps [] s t ∧
        t.link = (raise (.lateEvent n (some c.number) kind stamp c.state c.stateSince.at_ .seatChanged) s).link) ∧
    (stampBeforeOpt stamp c.seatSince = false → c.stateSince.earlier = false → stamp < c.stateSince.at_ →
      (c.state = .finished ∨ c.state = .left ∨ c.state = .collected) →
      (kind = .restOut ∨ kind = .restIn ∨ kind = .leave) →
      ∃ t, t = handOn line address kind 0 stamp s ∧ keeps [] s t ∧
        t.link = (raise (.lateEvent n (some c.number) kind stamp c.state c.stateSince.at_ .afterState) s).link) ∧
    (stampBeforeOpt stamp c.seatSince = false → stampBefore stamp c.stateSince = false →
      (c.state = .finished ∨ c.state = .left ∨ c.state = .collected) →
      (kind = .restOut ∨ kind = .restIn ∨ kind = .leave) →
      ∃ t, t = handOn line address kind 0 stamp s ∧ keeps [.roster, .desk] s t ∧ t.link = s.link ∧
        candidateOf t c.number = some { c with
          lastEffective := some (min (max stamp (c.lastEffective.getD 0)) s.timer.clock) } ∧
        othersKept c.number s t ∧
        DisplayOwedAt line address .finished s t))

/-! ## Desk lines -/

/-- CONFIGURE_LINE writes the line's record, renews the polled desks and drops those beyond the desk count (R79).
Nothing but CONFIGURE_LINE and the start-ups changes the record of a desk above D (R82) or of a desk of a line in FAULT (R95). -/
def Obligations.ConfigureLineRestartsTheLine : Prop :=
  (∀ (tag line desks spare keep : Nat) (s : State), canTake (.configureLine tag line desks spare keep) s = true →
    line < 8 → 1 ≤ desks → desks ≤ 120 → keep ≤ 1 →
    ∃ t sp r, exec (.configureLine tag line desks spare keep) s = .next t ∧ keeps [.desk] s t ∧
      sp = min (max 1 (min spare 16)) (123 - desks) ∧
      lineOf t line =
        { state := .running, desks := desks, spare := sp, autoKeep := keep == 1, missedCycles := 0, probe := 1
          delivery := 0, test := none, position := 0, keepCycle := false, replySeen := false, awaited := none
          lastSent := (lineOf s line).lastSent } ∧
      linesKept line s t ∧
      r = ⟨tag, 0x40, if sp = spare then .ok else .clamped,
        [Field.num 1 sp, Field.num 1 (2 + desks + sp), Field.num 2 (2 * (2 + desks + sp))], false⟩ ∧
      ((lineOf s line).test = none → t.link.replies = s.link.replies ++ [r]) ∧
      (∀ x, (lineOf s line).test = some x →
        ∃ a, t.link.replies = s.link.replies ++ [a, r] ∧ a.tag = x.tag ∧ a.code = 0x43 ∧ a.result = .aborted) ∧
      (∀ a, 1 ≤ a → a ≤ desks → (deskOf t line a).missedPolls = 0 ∧ (deskOf t line a).owedSeat = true ∧
        (deskOf t line a).owedEnd = true ∧ (deskOf t line a).reachable = (deskOf s line a).reachable) ∧
      (∀ a, desks < a → a ≤ 120 → deskOf t line a = { deskOf s line a with reachable := false }) ∧
      ∀ k a, k ≠ line → a ≤ 120 → deskOf t k a = deskOf s k a) ∧
  ∀ (c : Instr) (line a : Nat) (s t : State), LinesSound s → exec c s = .next t →
    (∀ tag desks spare keep, c ≠ .configureLine tag line desks spare keep) →
    (∀ valid strap, c ≠ .powerReturn valid strap) → c ≠ .coldPin → c ≠ .restartBegin →
    ((lineOf s line).desks < a ∨ (lineOf s line).state = .fault) → a ≤ 120 → deskOf t line a = deskOf s line a

/-- The slots of a cycle in their order: the sync broadcast with the clock, each session and the hall hold; the marker,
RUN or KEEP; a poll with the desk's last taken mark, or, in a probe cycle of a LOST line, one probe and silence; and
nothing in the spare slots while no desk is owed anything (R81, R82, R87, R93, R98). A spare slot serves a REACHABLE desk
that is owed something: DISPLAY first, then SEAT, then END, composed from the records; DISPLAY and SEAT are cleared as
they are sent, END stays owed (R87, R88). The desk served is the first that is REACHABLE and owed something from the address
after the delivery position upward through D, then from 1 up to the delivery position itself; none where no address 1 to D
qualifies (R87). The frames' content: SEAT the seat, its candidate, paper and session; DISPLAY
the owed code; END the session, the delivered end, for which a running pause and an open move do not count, and the closed
mark (R88). -/
def Obligations.CycleSlotsSendAndDeliver : Prop :=
  (
    ∀ (line : Nat) (x : Line) (s : State), s.powered = true → lineOf s line = x → slotDone x = true →
      (((x.state = .running ∨ x.state = .lost) ∨ inTest x .echo = true) → x.position = 0 →
        ∃ t, exec (.sync line) s = .next t ∧ Happened [] [.desk] s t ∧ linesKept line s t ∧
          t.desk.desks = s.desk.desks ∧
          lineOf t line = { x with
            position := 1, awaited := none, replySeen := false
            keepCycle := decide (x.state = .lost) && x.autoKeep
            lastSent := some (.sync s.timer.clock
              ((List.range 8).map fun k => ((sessionOf s k).state, decide ((sessionOf s k).state = .paused)))
              (hallHoldActive s)) }) ∧
      (x.position = 1 →
        ∀ keep : Bool, ((x.state = .running ∨ x.state = .lost) ∧ keep = (decide (x.state = .lost) && x.autoKeep) ∨
          inTest x .echo = true ∧ keep = true) →
        ∃ t, exec (.marker line) s = .next t ∧ Happened [] [.desk] s t ∧ linesKept line s t ∧
          t.desk.desks = s.desk.desks ∧
          lineOf t line = { x with position := 2, awaited := none, lastSent := some (.marker keep) }) ∧
      ((x.state = .running ∨ x.state = .lost) → 2 ≤ x.position → x.position ≤ x.desks + 1 →
        ∃ t, exec (.poll line) s = .next t ∧ Happened [] [.desk] s t ∧ linesKept line s t ∧
          t.desk.desks = s.desk.desks ∧
          lineOf t line =
            if x.keepCycle = false then { x with
              position := x.position + 1, awaited := some (.poll (x.position - 1))
              lastSent := some (.poll (x.position - 1) (deskOf s line (x.position - 1)).takenMark) }
            else if x.position = 2 then { x with
              position := 3, awaited := some (.poll x.probe)
              lastSent := some (.poll x.probe (deskOf s line x.probe).takenMark)
              probe := if x.desks ≤ x.probe then 1 else x.probe + 1 }
            else { x with position := x.position + 1, awaited := none, lastSent := some .silent }) ∧
      ((x.state = .running ∨ x.state = .lost) ∧ (x.keepCycle = true ∨ servedDesk s line = none) ∨
          inTest x .echo = true →
        x.desks + 2 ≤ x.position → x.position ≤ x.desks + x.spare + 1 →
        ∃ t, exec (.spareSlot line) s = .next t ∧ Happened [] [.desk] s t ∧ linesKept line s t ∧
          t.desk.desks = s.desk.desks ∧
          lineOf t line = { x with position := x.position + 1, awaited := none, lastSent := some .silent })) ∧
  (
    ∀ (line a : Nat) (x : Line) (kind : Delivery) (s : State), s.powered = true → lineOf s line = x →
      slotDone x = true → (x.state = .running ∨ x.state = .lost) → x.keepCycle = false →
      x.desks + 2 ≤ x.position → x.position ≤ x.desks + x.spare + 1 → servedDesk s line = some a →
      kind = (if (deskOf s line a).owedDisplay then .display else if (deskOf s line a).owedSeat then .seat else .end_) →
      ∃ t, exec (.spareSlot line) s = .next t ∧ Happened [] [.desk] s t ∧ linesKept line s t ∧
        (deskOf s line a).reachable = true ∧ 1 ≤ a ∧ a ≤ x.desks ∧
        lineOf t line = { x with
          position := x.position + 1, awaited := some (.delivery a kind), delivery := a
          lastSent := some (deliveryFrame s line a kind) } ∧
        deskOf t line a = (match kind with
          | .display => { deskOf s line a with owedDisplay := false, displayCode := none }
          | .seat => { deskOf s line a with owedSeat := false }
          | .end_ => deskOf s line a) ∧
        ∀ b, b ≤ 120 → x.desks ≤ 120 → b ≠ a → deskOf t line b = deskOf s line b) ∧
  (
    ∀ (line a : Nat) (s : State),
      deliveryFrame s line a .display = .display a (deskOf s line a).displayCode ∧
      (seatAt s line a = none →
        deliveryFrame s line a .seat = .seat a none none none ∧ deliveryFrame s line a .end_ = .end_ a none none false) ∧
      (∀ n, seatAt s line a = some n → (seatOf s n).candidate = none →
        deliveryFrame s line a .seat = .seat a (some n) none none ∧
        deliveryFrame s line a .end_ = .end_ a none none false) ∧
      (∀ n c, seatAt s line a = some n → (seatOf s n).candidate = some c.number → candidateOf s c.number = some c →
        deliveryFrame s line a .seat =
          .seat a (some n) (some c.number) (some ((sessionOf s c.slot).paper, c.slot)) ∧
        deliveryFrame s line a .end_ = .end_ a (some c.slot)
          (if timeRuns c then
            some (computedEnd { sessionOf s c.slot with pauseStart := none } s.timer.clock { c with moveStart := none })
          else c.personalEnd)
          (decide (c.state = .finished ∨ c.state = .left ∨ c.state = .collected)))) ∧
  (
    ∀ (line : Nat) (s : State),
      (servedDesk s line = none ↔ ∀ b, ¬ servable s line b) ∧
      ∀ a, servedDesk s line = some a ↔ servable s line a ∧
        ((lineOf s line).delivery < a ∧ (∀ b, (lineOf s line).delivery < b → b < a → ¬ servable s line b) ∨
          a ≤ (lineOf s line).delivery ∧
            ∀ b, ((lineOf s line).delivery < b ∨ b < a) → ¬ servable s line b))

/-- Which bytes are a valid reply in a slot (R83, R84): twelve whose 8-bit sum is 0, the address the slot's, the buffered count 0
to 8, an event kind with argument and stamp in the ranges of the layout, and an event that agrees with the slot.
A valid reply records the desk's status, sets the missed counts to 0 and makes the desk REACHABLE and a LOST line
RUNNING, END owed at every address 1 to D with it; a display lost or returned is reported by DESK_REACH; an event whose mark
is not the desk's last taken one is handed on, with the line, the address, the kind, the argument and the stamp, an event
with an equal mark is not; a reply with a buffered count of 0 reports the drain, which settles an ABSENCE_PENDING candidate
(R45, R82, R84, R85, R89, R91, R94). That END owed for a display shown back by the reply that carries ACK_END is owed before
the ACK_END is judged is the model's choice (log entry 56); so is that a display's DESK_REACH comes after that of a return to
REACHABLE and before the reply's event is judged, and the drain after the ACK_END (log entry 77). Bytes that make no valid reply change nothing: that the missed
poll is counted by the POLL_NO_REPLY at the end of the slot is the model's choice (log entry 13). -/
def Obligations.DeskReplyIsTaken : Prop :=
  (∀ (line a : Nat) (bytes : List Byte) (r : DeskReply) (k : EventKind) (s : State), s.powered = true →
    ((lineOf s line).state = .running ∨ (lineOf s line).state = .lost) → (lineOf s line).awaited = some (.poll a) →
    validReply (.poll a) bytes = some (r, k) →
    ∃ t, exec (.deskReply line bytes) s = .next t ∧ keeps [.desk, .seatMap, .roster, .timer] s t ∧ linesKept line s t ∧
      lineOf t line = { lineOf s line with
        state := .running, missedCycles := 0, replySeen := true, awaited := none } ∧
      r.address = a ∧ (deskOf t line a).reachable = true ∧ (deskOf t line a).missedPolls = 0 ∧
      (deskOf t line a).cardPresent = some r.cardPresent ∧ (deskOf t line a).displayOk = some r.displayOk ∧
      (deskOf t line a).buffered = some r.buffered ∧
      (deskOf t line a).takenMark =
        (if k ≠ .none_ then some r.mark
         else if (deskOf s line a).reachable then (deskOf s line a).takenMark else none) ∧
      ((deskOf s line a).reachable = false → 1 ≤ a → a ≤ (lineOf s line).desks →
        (deskOf t line a).owedSeat = true ∧ (deskOf t line a).owedEnd = true)) ∧
  (∀ (line a : Nat) (bytes : List Byte) (r : DeskReply) (k : EventKind) (x : Line) (d : Desk)
      (lost polled gone back : Bool) (s : State), s.powered = true → polled = decide (1 ≤ a ∧ a ≤ x.desks) →
    x = lineOf s line → d = deskOf s line a → (x.state = .running ∨ x.state = .lost) →
    x.desks ≤ 120 → x.awaited = some (.poll a) → validReply (.poll a) bytes = some (r, k) →
    lost = decide (x.state = .lost) → gone = (!r.displayOk && decide (d.displayOk ≠ some false)) →
    back = (r.displayOk && decide (d.displayOk = some false)) →
    ∃ t u, exec (.deskReply line bytes) s = .next t ∧ keeps [.desk] s u ∧ linesKept line s u ∧
      u.link = linkAfter
        ((if lost then [.lineState line .lost .running .reply s.timer.clock] else []) ++
          (if d.reachable then [] else [.deskReach line a (seatAt s line a) true (some r.displayOk)]) ++
          (if gone || back then [.deskReach line a (seatAt s line a) true (some r.displayOk)] else [])) s ∧
      lineOf u line = { x with state := .running, missedCycles := 0, replySeen := true, awaited := none } ∧
      deskOf u line a = { d with
        reachable := true, missedPolls := 0, cardPresent := some r.cardPresent, displayOk := some r.displayOk
        buffered := some r.buffered, owedSeat := d.owedSeat || (polled && (!d.reachable || back))
        owedEnd := d.owedEnd || (polled && (lost || !d.reachable || back))
        takenMark := if k ≠ .none_ then some r.mark else if d.reachable then d.takenMark else none } ∧
      (∀ b, b ≠ a → b < 256 → deskOf u line b = { deskOf s line b with
        owedEnd := (deskOf s line b).owedEnd || (lost && decide (1 ≤ b ∧ b ≤ x.desks)) }) ∧
      (∀ l b, l ≠ line → b < 256 → deskOf u l b = deskOf s l b) ∧
      (k ≠ .none_ → (d.reachable = false ∨ d.takenMark ≠ some r.mark) →
        After (handOn line a k r.argument r.stamp) s u t) ∧
      (k ≠ .none_ → d.reachable = true → d.takenMark = some r.mark → After (fun v => v) s u t) ∧
      (k = .none_ → r.buffered = 0 ∧ After (reportDrain line a) s u t)) ∧
  (∀ (line a : Nat) (kind : Delivery) (bytes : List Byte) (r : DeskReply) (k : EventKind) (x : Line) (d e : Desk)
      (echo : Option Nat) (lost polled gone back : Bool) (s : State), s.powered = true → x = lineOf s line →
    polled = decide (1 ≤ a ∧ a ≤ x.desks) →
    d = deskOf s line a → (x.state = .running ∨ x.state = .lost) → x.desks ≤ 120 →
    x.awaited = some (.delivery a kind) → validReply (.delivery a kind) bytes = some (r, k) →
    lost = decide (x.state = .lost) → gone = (!r.displayOk && decide (d.displayOk ≠ some false)) →
    back = (r.displayOk && decide (d.displayOk = some false)) →
    e = { d with
      missedPolls := 0, cardPresent := some r.cardPresent, displayOk := some r.displayOk
      buffered := some r.buffered, owedSeat := d.owedSeat || (polled && back)
      owedEnd := d.owedEnd || (polled && (lost || back)) } →
    echo = (if r.argument = 0xFFFFFFFF then none else some r.argument) →
    ∃ t u, exec (.deskReply line bytes) s = .next t ∧ keeps [.desk] s u ∧ linesKept line s u ∧
      u.link = linkAfter
        ((if lost then [.lineState line .lost .running .reply s.timer.clock] else []) ++
          (if gone || back then [.deskReach line a (seatAt s line a) d.reachable (some r.displayOk)] else [])) s ∧
      lineOf u line = { x with state := .running, missedCycles := 0, replySeen := true, awaited := none } ∧
      deskOf u line a = (if kind = .end_ then
          { e with ackedEnd := some echo, owedEnd := e.owedEnd && decide (echo ≠ deskEnd s line a) } else e) ∧
      (∀ b, b ≠ a → b < 256 → deskOf u line b = { deskOf s line b with
        owedEnd := (deskOf s line b).owedEnd || (lost && decide (1 ≤ b ∧ b ≤ x.desks)) }) ∧
      (∀ l b, l ≠ line → b < 256 → deskOf u l b = deskOf s l b) ∧
      (r.buffered ≠ 0 → After (fun v => v) s u t) ∧ (r.buffered = 0 → After (reportDrain line a) s u t)) ∧
  (∀ (line a : Nat) (bytes : List Byte) (r : DeskReply) (k : EventKind) (s : State), s.powered = true →
    (lineOf s line).state = .running → (lineOf s line).awaited = some (.delivery a .end_) →
    validReply (.delivery a .end_) bytes = some (r, k) → r.buffered ≠ 0 → (deskOf s line a).displayOk = some r.displayOk →
    ∃ t, exec (.deskReply line bytes) s = .next t ∧ keeps [.desk] s t ∧ t.link.notices = s.link.notices ∧
      (deskOf t line a).ackedEnd = some (if r.argument = 0xFFFFFFFF then none else some r.argument) ∧
      (deskOf t line a).owedEnd = ((deskOf s line a).owedEnd &&
        decide ((if r.argument = 0xFFFFFFFF then none else some r.argument) ≠ deskEnd s line a))) ∧
  (∀ (line a n : Nat) (c : Candidate) (s : State), RosterSound s → seatAt s line a = some n →
    (seatOf s n).candidate = some c.number → candidateOf s c.number = some c → c.state = .assigned →
    c.absencePending = true →
    ∃ t, t = reportDrain line a s ∧ keeps [.seatMap, .roster, .desk, .timer] s t ∧
      candidateOf t c.number = some { c with
        seat := none, seatSince := none, absencePending := false, state := .absent
        stateSince := { at_ := s.timer.clock } } ∧
      (∀ m, c.seat = some m →
        (seatOf t m).candidate = none ∧ SeatOwedAt (seatOf s m).line (seatOf s m).address s t) ∧
      (∀ e ∈ s.roster, e.number ≠ c.number → (e.slot ≠ c.slot ∨ e.state ≠ .assigned) →
        candidateOf t e.number = some e) ∧
      sessionsKept c.slot s t ∧ SessionFollows c.number c.slot s t) ∧
  (∀ (line a : Nat) (s : State),
    (∀ n c, seatAt s line a = some n → (seatOf s n).candidate = some c.number → candidateOf s c.number = some c →
      c.state ≠ .assigned ∨ c.absencePending = false) → reportDrain line a s = s) ∧
  (∀ (line : Nat) (slot : Awaited) (bytes : List Byte) (s : State), (lineOf s line).awaited = some slot →
    validReply slot bytes = none → exec (.deskReply line bytes) s = .next s) ∧
  (∀ (slot : Awaited) (bytes : List Byte) (r : DeskReply) (k : EventKind) (b : Nat → Nat) (argument stamp : Nat),
    (∀ i, b i = (bytes.getD i 0).toNat) → argument = ((b 4 * 256 + b 5) * 256 + b 6) * 256 + b 7 →
    stamp = (b 8 * 256 + b 9) * 256 + b 10 →
    (validReply slot bytes = some (r, k) ↔
      bytes.length = 12 ∧
      (b 0 + b 1 + b 2 + b 3 + b 4 + b 5 + b 6 + b 7 + b 8 + b 9 + b 10 + b 11) % 256 = 0 ∧
      r = { address := b 0, cardPresent := decide (b 1 % 2 = 1), displayOk := decide (b 1 / 2 % 2 = 1)
            mark := decide (b 1 / 4 % 2 = 1), buffered := b 2, kind := b 3, argument := argument, stamp := stamp } ∧
      (match slot with
        | .poll a => b 0 = a
        | .delivery a _ => b 0 = a) ∧
      b 2 ≤ 8 ∧
      (b 3, k) ∈ [(0, EventKind.none_), (1, .signIn), (2, .restOut), (3, .restIn), (4, .leave), (5, .call),
        (6, .declare_), (7, .ackEnd)] ∧
      (match k with
        | .none_ => argument = 0 ∧ stamp = 0
        | .signIn => argument ≤ 99999999 ∧ stamp ≤ 86399
        | .declare_ => argument ≤ 9 ∧ stamp ≤ 86399
        | .ackEnd => (argument ≤ 86399 ∨ argument = 0xFFFFFFFF) ∧ stamp = 0
        | .restOut | .restIn | .leave | .call => argument = 0 ∧ stamp ≤ 86399) ∧
      (match slot with
        | .poll _ => (b 2 = 0 → k = .none_) ∧ (b 2 ≠ 0 → k ≠ .none_ ∧ k ≠ .ackEnd)
        | .delivery _ kind => (kind = .end_ → k = .ackEnd) ∧ (kind ≠ .end_ → k = .none_))))

/-- A poll without a valid reply counts one missed poll, up to 8; at 8 a REACHABLE desk is UNREACHABLE and loses an owed
DISPLAY, which DESK_REACH reports (R82, R90). The end of a cycle: a RUNNING line without a valid reply in it counts a
missed cycle, and is LOST at the third, its desk records left as they are (R92). -/
def Obligations.SilenceIsCounted : Prop :=
  (
    ∀ (line a : Nat) (s : State), s.powered = true →
      ((lineOf s line).state = .running ∨ (lineOf s line).state = .lost) → (lineOf s line).awaited = some (.poll a) →
      ∃ t, exec (.pollNoReply line) s = .next t ∧ linesKept line s t ∧
        lineOf t line = { lineOf s line with awaited := none } ∧
        (((deskOf s line a).reachable = false ∨ (deskOf s line a).missedPolls < 7) →
          Happened [] [.desk] s t ∧
          deskOf t line a = { deskOf s line a with missedPolls := min 8 ((deskOf s line a).missedPolls + 1) }) ∧
        ((deskOf s line a).reachable = true → 7 ≤ (deskOf s line a).missedPolls →
          Happened [.deskReach line a (seatAt s line a) false (deskOf s line a).displayOk] [.desk] s t ∧
          deskOf t line a = { deskOf s line a with
            missedPolls := 8, reachable := false, owedDisplay := false, displayCode := none })) ∧
  (
    ∀ (line : Nat) (x y : Line) (s : State), s.powered = true → lineOf s line = x → slotDone x = true →
      x.position = 2 + x.desks + x.spare → y = { x with position := 0, awaited := none, replySeen := false } →
      ((x.state = .lost ∨ x.state = .running ∧ x.replySeen = true) →
        ∃ t, exec (.lineCycleEnd line) s = .next t ∧ Happened [] [.desk] s t ∧ linesKept line s t ∧
          t.desk.desks = s.desk.desks ∧ lineOf t line = y) ∧
      (x.state = .running → x.replySeen = false → x.missedCycles < 2 →
        ∃ t, exec (.lineCycleEnd line) s = .next t ∧ Happened [] [.desk] s t ∧ linesKept line s t ∧
          t.desk.desks = s.desk.desks ∧ lineOf t line = { y with missedCycles := x.missedCycles + 1 }) ∧
      (x.state = .running → x.replySeen = false → 2 ≤ x.missedCycles →
        ∃ t, exec (.lineCycleEnd line) s = .next t ∧
          Happened [.lineState line .running .lost .silent s.timer.clock] [.desk] s t ∧ linesKept line s t ∧
          t.desk.desks = s.desk.desks ∧ lineOf t line = { y with missedCycles := 3, state := .lost }))

/-- A line test from its acceptance to its end: its frames and echoes are counted, its last cycle answers OK and returns the
line to RUNNING with END owed at every polled desk; a transmit fault ends it, or ordinary polling, in FAULT (R95 to
R99). A line is in use where a defined seat of it names a candidate in PRESENT, WRITING, RESTING or MOVING: LINE_TEST is then
refused with LINE_IN_USE and the lowest-numbered such seat as object (R96). The counts of a LOCAL test are its good and bad frames, those of an ECHO test a list with its count before it (R97, R98,
R186). -/
def Obligations.LineTestRunsAndEnds : Prop :=
  (∀ (tag line mode cycles : Nat) (m : TestMode) (s : State), canTake (.lineTest tag line mode cycles) s = true →
    (mode = 0 ∧ m = .local_ ∨ mode = 1 ∧ m = .echo) → line < 8 → 1 ≤ cycles → cycles ≤ 255 →
    ((lineOf s line).state = .running ∨ (lineOf s line).state = .lost) →
    lineInUse s line = none →
    ∃ t, exec (.lineTest tag line mode cycles) s = .next t ∧ keeps [.desk] s t ∧ linesKept line s t ∧
      t.desk.desks = s.desk.desks ∧ t.link.replies = s.link.replies ∧
      lineOf t line = { lineOf s line with
        state := .test, test := some { mode := m, requested := cycles, tag := tag }, position := 0
        keepCycle := false, replySeen := false, awaited := none }) ∧
  (∀ (line : Nat) (intact : Bool) (x : Line) (v : LineTest) (s : State), s.powered = true → lineOf s line = x →
    x.state = .test → x.test = some v →
    (v.mode = .local_ → x.position < 2 + x.desks + x.spare →
      ∃ t, exec (.loopFrame line intact) s = .next t ∧ Happened [] [.desk] s t ∧ linesKept line s t ∧
        lineOf t line = { x with
          position := x.position + 1, lastSent := some .loop, awaited := none
          test := some { v with good := v.good + intact.toNat, bad := v.bad + (!intact).toNat } }) ∧
    (v.mode = .echo → slotDone x = true → 2 ≤ x.position → x.position ≤ x.desks + 1 →
      ∃ t w, exec (.echoRequest line intact) s = .next t ∧ Happened [] [.desk] s t ∧ linesKept line s t ∧
        lineOf t line = { x with
          position := x.position + 1, lastSent := some (.echoRequest (x.position - 1)), awaited := none
          test := some { v with echoes := w } } ∧
        ∀ a, tableRead 0 w a =
          if a = x.position - 1 ∧ intact = true then min 255 (tableRead 0 v.echoes a + 1) else tableRead 0 v.echoes a) ∧
    (slotDone x = true → x.position = 2 + x.desks + x.spare → v.run + 1 < v.requested →
      ∃ t, exec (.testCycleEnd line) s = .next t ∧ Happened [] [.desk] s t ∧ linesKept line s t ∧
        lineOf t line = { x with position := 0, test := some { v with run := v.run + 1 } }) ∧
    (slotDone x = true → x.position = 2 + x.desks + x.spare → v.requested ≤ v.run + 1 →
      ∃ t, exec (.testCycleEnd line) s = .next t ∧
        Concluded (longReply v.tag 0x43 (testCounts x v)) [.lineState line .test .running .testEnd s.timer.clock]
          [.desk] s t ∧
        linesKept line s t ∧
        lineOf t line = { x with
          state := .running, test := none, missedCycles := 0, position := 0, keepCycle := false, replySeen := false
          awaited := none } ∧
        ∀ a, 1 ≤ a → a ≤ x.desks → (deskOf t line a).owedEnd = true)) ∧
  (∀ (x : Line) (v : LineTest), testCounts x v = match v.mode with
    | .local_ => [Field.num 2 v.good, Field.num 2 v.bad]
    | .echo => Field.num 1 x.desks :: (List.range x.desks).map fun i => Field.num 1 (tableRead 0 v.echoes (i + 1))) ∧
  (∀ (line : Nat) (s : State), s.powered = true →
    ((lineOf s line).state = .running ∨ (lineOf s line).state = .lost ∨ inTest (lineOf s line) .echo = true) →
    ∃ t, exec (.transmitFault line) s = .next t ∧ keeps [.desk] s t ∧ linesKept line s t ∧
      t.desk.desks = s.desk.desks ∧ lineOf t line = { lineOf s line with state := .fault, test := none, awaited := none } ∧
      ((lineOf s line).test = none → t.link.replies = s.link.replies ∧
        t.link.notices = (raise (.lineState line (lineOf s line).state .fault .fault s.timer.clock) s).link.notices) ∧
      ∀ v, (lineOf s line).test = some v → t.link.replies = s.link.replies ++
        [⟨v.tag, 0x43, .aborted, Field.num 1 v.run :: testCounts (lineOf s line) v, true⟩]) ∧
  (∀ (line : Nat) (s : State) (inUse : Nat → Prop), SeatsPlaced s →
    (∀ n, inUse n ↔ ∃ x c, (n, x) ∈ definedSeats s ∧ x.line = line ∧ x.candidate.bind (candidateOf s) = some c ∧
      (c.state = .present ∨ c.state = .writing ∨ c.state = .resting ∨ c.state = .moving)) →
    (∀ n, lineInUse s line = some n ↔ inUse n ∧ ∀ m, inUse m → n ≤ m) ∧
    (lineInUse s line = none ↔ ∀ n, ¬ inUse n)) ∧
  (∀ (tag line mode cycles n : Nat) (s : State), canTake (.lineTest tag line mode cycles) s = true → mode ≤ 1 →
    line < 8 → 1 ≤ cycles → cycles ≤ 255 → ((lineOf s line).state = .running ∨ (lineOf s line).state = .lost) →
    lineInUse s line = some n →
    ∃ t, exec (.lineTest tag line mode cycles) s = .next t ∧ Refused tag 0x43 .lineInUse .none_ (some n) s t)

/-! ## The boards -/

/-- CONFIGURE_BOARDS, SET_FOCUS, BOARD_MESSAGE and BOARD_BLANK write what they name and nothing else (R102, R108 to
R110). -/
def Obligations.BoardRequestsWrite : Prop :=
  (∀ (tag rows : Nat) (dwell : Option Nat) (s : State), canTake (.configureBoards tag rows dwell) s = true →
    4 ≤ rows → rows ≤ 16 → 8 ≤ dwell.getD 10 → dwell.getD 10 ≤ 60 →
    ∃ t, exec (.configureBoards tag rows dwell) s = .next t ∧ Answered (okReply tag 0x50 []) [] [.boards] s t ∧
      t.boards = { s.boards with rows := rows, dwell := dwell.getD 10, pageStart := 0, dwellCount := 0 }) ∧
  (∀ (tag : Nat) (slot : Option Nat) (s : State), canTake (.setFocus tag slot) s = true →
    (∀ k, slot = some k → k < 8 ∧ (sessionOf s k).state ≠ .free) →
    ∃ t, exec (.setFocus tag slot) s = .next t ∧ Answered (okReply tag 0x52 []) [] [.boards] s t ∧
      t.boards = { s.boards with focus := slot }) ∧
  (∀ (tag d : Nat) (text : List Char) (s : State), canTake (.boardMessage tag text d) s = true →
    (text = [] ∨ (text.length ≤ 32 ∧ (∀ c ∈ text, messageChar c = true) ∧ 1 ≤ d ∧ d ≤ 600)) →
    ∃ t, exec (.boardMessage tag text d) s = .next t ∧ Answered (okReply tag 0x53 []) [] [.boards] s t ∧
      t.boards = { s.boards with message := if text = [] then none else some (text, 20 * d) }) ∧
  (∀ (tag slot choice : Nat) (s : State), canTake (.boardBlank tag slot choice) s = true → choice ≤ 1 → slot < 8 →
    (sessionOf s slot).state ≠ .free →
    ∃ t, exec (.boardBlank tag slot choice) s = .next t ∧ Answered (okReply tag 0x54 []) [] [.boards] s t ∧
      t.boards = { s.boards with blankSet := t.boards.blankSet } ∧
      ∀ k, k ∈ t.boards.blankSet ↔ if k = slot then choice = 1 else k ∈ s.boards.blankSet)

/-- A board frame is composed from the records and sent, the phase and the counts move on: row 0 the clock and the hold;
below it the page of the line list of the qualifying sessions, each with its marker cell, its text or the blanks of a
blanked or blinking line, and its rendering; the message, while frames are left to it, on the last row; the page turns at
the dwell (R101, R104 to R109, R112). That a PAGE_TURN may also be taken between frames, and that a message with no frames
left stands unshown until MESSAGE_EXPIRY, is the model's reading (log entry 25). The attribute of a session line, by the
first rule that holds (R111): blanked, paused, within the second or the first warning, ended or collecting, else plain. -/
def Obligations.BoardsShowTheHall : Prop :=
  (
    (∀ s : State, s.powered = true →
      ∃ t rows, exec .boardFrame s = .next t ∧ Happened [] [.boards] s t ∧ t.boards.lastFrame = some rows ∧
        t.boards.phase = (s.boards.phase + 1) % 64 ∧
        t.boards.message = s.boards.message.map (fun m => (m.1, m.2 - 1)) ∧
        t.boards.rows = s.boards.rows ∧ t.boards.dwell = s.boards.dwell ∧ t.boards.focus = s.boards.focus ∧
        t.boards.blankSet = s.boards.blankSet ∧
        rows.length = 1 + (s.boards.rows - 1) ∧
        rows[0]? = some
          ⟨(if s.timer.clockUnset then ['-', '-', ':', '-', '-', ':', '-', '-'] else hhmmss s.timer.clock) ++
            List.replicate 20 ' ' ++ (if hallHoldActive s then ['H', 'O', 'L', 'D'] else [' ', ' ', ' ', ' ']),
           if hallHoldActive s then .reverse else .normal⟩ ∧
        ((lineList s).length ≤ s.boards.rows - 1 → t.boards.pageStart = 0 ∧ t.boards.dwellCount = 0) ∧
        (s.boards.rows - 1 < (lineList s).length → (lineList s).length ≤ s.boards.pageStart →
          t.boards.pageStart = 0 ∧ t.boards.dwellCount = 1) ∧
        (s.boards.rows - 1 < (lineList s).length → s.boards.pageStart < (lineList s).length →
          (s.boards.dwellCount < 20 * s.boards.dwell →
            t.boards.pageStart = s.boards.pageStart ∧ t.boards.dwellCount = s.boards.dwellCount + 1) ∧
          (20 * s.boards.dwell ≤ s.boards.dwellCount → t.boards.dwellCount = 1 ∧
            t.boards.pageStart = if s.boards.pageStart + (s.boards.rows - 1) < (lineList s).length
              then s.boards.pageStart + (s.boards.rows - 1) else 0)) ∧
        (∀ text d, s.boards.message = some (text, d) → 0 < d → text.length ≤ 32 → 2 ≤ s.boards.rows →
          rows[s.boards.rows - 1]? = some ⟨text ++ List.replicate (32 - text.length) ' ', .normal⟩) ∧
        (∀ i, i + 1 < s.boards.rows → (i + 2 < s.boards.rows ∨ s.boards.message.all (fun m => decide (m.2 = 0)) = true) →
          ((lineList s)[t.boards.pageStart + i]? = none →
            rows[i + 1]? = some ⟨List.replicate 32 ' ', .normal⟩) ∧
          ∀ k, (lineList s)[t.boards.pageStart + i]? = some k →
            rows[i + 1]? = some
              ⟨(if s.boards.focus = some k ∧ lineAttr s k ≠ .blank ∧ s.boards.phase % 64 < 32 then '>' else ' ') ::
                (if lineAttr s k = .blank ∨ lineAttr s k = .alert ∧ 16 ≤ s.boards.phase % 32 then List.replicate 31 ' '
                  else lineText s k),
               match lineAttr s k with
               | .paused => .reverse
               | .alert | .warn => .bold
               | .dim => .dim
               | .blank | .plain => .normal⟩)) ∧
    (∀ s : State, (lineList s).Pairwise (· < ·) ∧
      ∀ k, k ∈ lineList s ↔ k < 8 ∧ ((sessionOf s k).state = .seating ∨ (sessionOf s k).state = .reading ∨
        (sessionOf s k).state = .writing ∨ (sessionOf s k).state = .paused ∨ (sessionOf s k).state = .ended ∨
        (sessionOf s k).state = .collecting)) ∧
    (∀ (k m : Nat) (x : Session) (word remaining : List Char) (s : State), sessionOf s k = x → x.paper.length = 6 →
      (x.state = .seating ∧ word = ['S', 'E', 'A', 'T', ' '] ∨ x.state = .reading ∧ word = ['R', 'E', 'A', 'D', ' '] ∨
        x.state = .writing ∧ word = ['W', 'R', 'I', 'T', 'E'] ∨ x.state = .paused ∧ word = ['P', 'A', 'U', 'S', 'E'] ∨
        x.state = .ended ∧ word = ['E', 'N', 'D', 'E', 'D'] ∨
        x.state = .collecting ∧ word = ['C', 'O', 'L', 'L', ' ']) →
      m = min 999 ((baseEnd x s.timer.clock - s.timer.clock + 59) / 60) →
      remaining =
        (if x.state = .seating ∨ x.state = .ended ∨ x.state = .collecting then [' ', ' ', ' ']
         else [if m < 100 then ' ' else digit (m / 100), if m < 10 then ' ' else digit (m / 10 % 10), digit (m % 10)]) →
      lineText s k = x.paper ++ [' '] ++ word ++ [' '] ++ hhmm x.start ++ [' '] ++ hhmm (baseEnd x s.timer.clock) ++
        [' '] ++ hhmm (longestEnd s k) ++ [' '] ++ remaining) ∧
    (∀ t : Nat, t < 86400 →
      hhmm t = [digit (t / 36000), digit (t / 3600 % 10), digit (t / 600 % 6), digit (t / 60 % 10)] ∧
      hhmmss t = (hhmm t).take 2 ++ [':'] ++ (hhmm t).drop 2 ++ [':', digit (t % 60 / 10), digit (t % 10)]) ∧
    (digit 0 = '0' ∧ digit 1 = '1' ∧ digit 2 = '2' ∧ digit 3 = '3' ∧ digit 4 = '4' ∧ digit 5 = '5' ∧ digit 6 = '6' ∧
      digit 7 = '7' ∧ digit 8 = '8' ∧ digit 9 = '9') ∧
    (∀ s : State, s.powered = true → s.boards.rows - 1 < (lineList s).length →
      s.boards.pageStart < (lineList s).length → 20 * s.boards.dwell ≤ s.boards.dwellCount →
      ∃ t, exec .pageTurn s = .next t ∧ Happened [] [.boards] s t ∧
        t.boards = { s.boards with
          dwellCount := 0
          pageStart := if s.boards.pageStart + (s.boards.rows - 1) < (lineList s).length
            then s.boards.pageStart + (s.boards.rows - 1) else 0 }) ∧
    (∀ (text : List Char) (s : State), s.powered = true → s.boards.message = some (text, 0) →
      ∃ t, exec .messageExpiry s = .next t ∧ Happened [] [.boards] s t ∧ t.boards = { s.boards with message := none })) ∧
  (
    ∀ (s : State) (slot : Nat) (x : Session), sessionOf s slot = x →
      (s.boards.blankSet.contains slot = true → lineAttr s slot = .blank) ∧
      (s.boards.blankSet.contains slot = false →
        (x.state = .paused → lineAttr s slot = .paused) ∧
        (x.state = .writing → x.warn2 ≠ 0 → baseEnd x s.timer.clock ≤ s.timer.clock + x.warn2 →
          lineAttr s slot = .alert) ∧
        (x.state = .writing → (x.warn2 = 0 ∨ s.timer.clock + x.warn2 < baseEnd x s.timer.clock) →
          x.warn1 ≠ 0 → baseEnd x s.timer.clock ≤ s.timer.clock + x.warn1 → lineAttr s slot = .warn) ∧
        (x.state = .writing → (x.warn2 = 0 ∨ s.timer.clock + x.warn2 < baseEnd x s.timer.clock) →
          (x.warn1 = 0 ∨ s.timer.clock + x.warn1 < baseEnd x s.timer.clock) → lineAttr s slot = .plain) ∧
        ((x.state = .ended ∨ x.state = .collecting) → lineAttr s slot = .dim) ∧
        ((x.state = .seating ∨ x.state = .reading) → lineAttr s slot = .plain)))

/-! ## The reader port and the sheet store -/

/-- CONFIGURE_STATION, STATION_OFF and WAKE_STATION on a station that transfers nothing (R115, R117). What the stations
bring about themselves: a request line, the end of the warm-up when its timer has reached 0, the idle timeout when the
idle timer has reached the standby time, a feed wake and a fault outside a transfer (R114, R116 to R118). That the end of
a timer's count and what it brings about are two commands is the model's choice (log entry 24); that an OFF station's
request line is not seen is its reading (log entry 35); that the warm-up timer reads 0 once a station has left WARMING by
STATION_OFF or a fault is its choice (log entry 60); that WAKE_STATION leaves the idle timer of a WARMING station as it
is, and a feed wake that of the STANDBY one, is its reading of R116 and R117 (log entry 62). -/
def Obligations.StationsAreSwitched : Prop :=
  (
    (∀ (tag n kind : Nat) (standby : Option Nat) (k : StationKind) (s : State),
      canTake (.configureStation tag n kind standby) s = true → n < 4 → (kind = 0 ∧ k = .sheet ∨ kind = 1 ∧ k = .cover) →
      (∀ b, standby = some b → b = 0 ∨ (30 ≤ b ∧ b ≤ 3600)) → (stationOf s n).state ≠ .transferring →
      ∃ t, exec (.configureStation tag n kind standby) s = .next t ∧
        Answered (okReply tag 0x60 [])
          (if (stationOf s n).state = .warming then []
           else [.stationState n k (stationOf s n).state .warming .configure s.timer.clock none]) [.reader] s t ∧
        stationOf t n = { stationOf s n with
          kind := k, standby := standby.getD s.link.options.stationStandby, checkFailures := 0, idleTimer := 0
          warmTimer := 4, lastCommand := some .wake, state := .warming } ∧
        stationsKept n s t ∧ t.reader.transfer = s.reader.transfer ∧ t.reader.lastGranted = s.reader.lastGranted) ∧
    (∀ (tag n : Nat) (s : State), canTake (.stationOff tag n) s = true → n < 4 →
      (stationOf s n).state ≠ .transferring →
      ∃ t, exec (.stationOff tag n) s = .next t ∧ stationsKept n s t ∧ t.reader.transfer = s.reader.transfer ∧
        (if (stationOf s n).state = .off then Answered (okReply tag 0x61 []) [] [] s t
         else
          Answered (okReply tag 0x61 [])
            [.stationState n (stationOf s n).kind (stationOf s n).state .off .off s.timer.clock none] [.reader] s t ∧
          stationOf t n = { stationOf s n with state := .off, warmTimer := 0, lastCommand := some .standby })) ∧
    (∀ (tag n : Nat) (s : State), canTake (.wakeStation tag n) s = true → n < 4 →
      (stationOf s n).state ≠ .off → (stationOf s n).state ≠ .fault →
      ∃ t, exec (.wakeStation tag n) s = .next t ∧
        Answered (okReply tag 0x62 [])
          (if (stationOf s n).state = .standby then
            [.stationState n (stationOf s n).kind .standby .warming .wake s.timer.clock none]
           else []) [.reader] s t ∧
        stationsKept n s t ∧ t.reader.transfer = s.reader.transfer ∧
        stationOf t n = match (stationOf s n).state with
          | .standby => { stationOf s n with state := .warming, warmTimer := 4, idleTimer := 0, lastCommand := some .wake }
          | .idle => { stationOf s n with idleTimer := 0 }
          | _ => stationOf s n)) ∧
  (
    ∀ (n : Nat) (x : Station) (s : State), s.powered = true → stationOf s n = x →
      (∀ raised : Bool, x.state ≠ .off →
        ∃ t, exec (.stationRequest n raised) s = .next t ∧ Happened [] [.reader] s t ∧ stationsKept n s t ∧
          stationOf t n = { x with
            request := raised, idleTimer := if raised ∧ x.state = .idle then 0 else x.idleTimer }) ∧
      (∀ raised : Bool, x.state = .off → exec (.stationRequest n raised) s = .next s) ∧
      (x.state = .warming → x.warmTimer = 0 →
        ∃ t, exec (.warmDone n) s = .next t ∧
          Happened [.stationState n x.kind .warming .idle .warmDone s.timer.clock none] [.reader] s t ∧
          stationsKept n s t ∧ stationOf t n = { x with state := .idle, warmTimer := 0, idleTimer := 0 }) ∧
      ((x.state ≠ .warming ∨ 0 < x.warmTimer) → exec (.warmDone n) s = .next s) ∧
      ((x.state ≠ .idle ∨ x.standby = 0 ∨ x.request = true ∨ x.idleTimer < x.standby) →
        exec (.idleTimeout n) s = .next s) ∧
      (x.state = .idle → x.standby ≠ 0 → x.request = false → x.standby ≤ x.idleTimer →
        ∃ t, exec (.idleTimeout n) s = .next t ∧
          Happened [.stationState n x.kind .idle .standby .idleTimeout s.timer.clock none] [.reader] s t ∧
          stationsKept n s t ∧ stationOf t n = { x with state := .standby, lastCommand := some .standby }) ∧
      (x.state = .standby →
        ∃ t, exec (.feedWake n) s = .next t ∧
          Happened [.stationState n x.kind .standby .warming .wake s.timer.clock none] [.reader] s t ∧
          stationsKept n s t ∧ stationOf t n = { x with state := .warming, warmTimer := 4, lastCommand := some .wake }) ∧
      (x.state ≠ .standby → exec (.feedWake n) s = .next s) ∧
      ((x.state = .standby ∨ x.state = .warming ∨ x.state = .idle) →
        ∃ t, exec (.stationFault n) s = .next t ∧
          Happened [.stationState n x.kind x.state .fault .stationFault s.timer.clock none] [.reader] s t ∧
          stationsKept n s t ∧ stationOf t n = { x with state := .fault, warmTimer := 0 } ∧
          t.reader.transfer = s.reader.transfer) ∧
      ((x.state = .off ∨ x.state = .fault) → exec (.stationFault n) s = .next s))

/-- The port arbiter grants the first eligible station after the last one granted; a SHEET station's grant opens the
lowest FREE slot that is not marked for export (R120, R121). A station is eligible where it is IDLE with its request raised and
there is room for what it transfers: for a SHEET station a slot that is FREE and not marked for export, for a COVER station a
Cover Queue of fewer than 32 entries (R120). The grant leaves the ready lines as they stand, so one that
is low is low from the grant on (R123, log entry 34). It is the model's reading that the request stays raised (log entry
35); that a grant away from the end of a transfer is a command of its own is its choice (log entry 49). -/
def Obligations.PortGrantsInTurn : Prop :=
  (∀ (k : Nat) (s : State), s.powered = true → s.reader.transfer = none →
    (grantOrder s.reader.lastGranted).find? (grantable s) = some k →
    ∃ t, exec .portGrant s = .next t ∧ Happened [] [.reader, .store] s t ∧
      (stationOf s k).state = .idle ∧ (stationOf s k).request = true ∧
      stationOf t k = { stationOf s k with state := .transferring } ∧ stationsKept k s t ∧
      t.reader.lastGranted = some k ∧ (∀ m, readyIsLow t m = readyIsLow s m) ∧
      ((stationOf s k).kind = .cover → s.coll.covers.length < 32 ∧ t.store = s.store ∧
        t.reader.transfer = some
          { station := k, slot := none, headerTaken := false, held := none }) ∧
      ((stationOf s k).kind = .sheet → ∃ n, n < 48 ∧ (slotOf s n).state = .free ∧ (slotOf s n).exportMark = false ∧
        (∀ m, m < n → ¬((slotOf s m).state = .free ∧ (slotOf s m).exportMark = false)) ∧
        (slotOf t n).state = .filling ∧ (slotOf t n).source = some k ∧ slotsKept n s t ∧
        t.store.queue = s.store.queue ∧
        t.reader.transfer = some
          { station := k, slot := some n, headerTaken := false, held := none })) ∧
  (∀ s : State, (s.reader.transfer.isSome = true ∨ ∀ k, k < 4 → grantable s k = false) →
    (s.reader.lastGranted.all fun k => decide (k < 4)) = true → exec .portGrant s = .next s) ∧
  (∀ last : Option Nat, (last.all fun k => decide (k < 4)) = true →
    grantOrder last = [((last.getD 3) + 1) % 4, ((last.getD 3) + 2) % 4, ((last.getD 3) + 3) % 4,
      ((last.getD 3) + 4) % 4]) ∧
  (∀ (k : Nat) (s : State), grantable s k = true ↔
    (stationOf s k).state = .idle ∧ (stationOf s k).request = true ∧
    ((stationOf s k).kind = .sheet → ∃ n, n < 48 ∧ (slotOf s n).state = .free ∧ (slotOf s n).exportMark = false) ∧
    ((stationOf s k).kind = .cover → s.coll.covers.length < 32))

/-- A sheet's transfer: its header gives form and row count, each row goes to its place, and the last fills the slot and
puts it at the tail of the marking queue, the station IDLE again and the port granted again in the same step (R121, R122,
R126, R128). A cover's transfer appends its entry to the Cover Queue, leaves the station IDLE, and the port is granted again
(R120, R125). That a header is taken whatever the ready line shows is the model's reading (log entry 34), as is that the
station's request stays as it is (log entry 35). -/
def Obligations.TransfersComplete : Prop :=
  (
    ∀ (v : Transfer) (n : Nat) (s : State), s.powered = true → s.reader.transfer = some v → v.slot = some n →
      (∀ f1' f0 r1 r0 : Byte, v.headerTaken = false →
        11 ≤ r1.toNat * 256 + r0.toNat → r1.toNat * 256 + r0.toNat ≤ 210 →
        ∃ t, exec (.sheetHeader v.station [f1', f0, r1, r0, 0 - (f1' + f0 + r1 + r0)]) s = .next t ∧
          Happened [] [.reader, .store] s t ∧ t.reader = { s.reader with transfer := some { v with headerTaken := true } } ∧
          slotOf t n = { slotOf s n with
            form := some (f1'.toNat * 256 + f0.toNat), rowCount := some (r1.toNat * 256 + r0.toNat) } ∧
          slotsKept n s t ∧ t.store.queue = s.store.queue) ∧
      (∀ (row : List Byte) (rows : Nat), v.headerTaken = true → readyIsLow s v.station = false → row.length = 8 →
        (slotOf s n).rowCount = some rows →
        ((slotOf s n).rowsFilled + 1 < rows →
          ∃ t, exec (.sheetRow v.station (row ++ [0 - sum8 row])) s = .next t ∧ Happened [] [.store] s t ∧
            slotOf t n = { slotOf s n with
              image := writeRow (slotOf s n).image (slotOf s n).rowsFilled row
              rowsFilled := (slotOf s n).rowsFilled + 1 } ∧
            slotsKept n s t ∧ t.store.queue = s.store.queue) ∧
        (rows ≤ (slotOf s n).rowsFilled + 1 →
          ∃ t u, exec (.sheetRow v.station (row ++ [0 - sum8 row])) s = .next t ∧
            EndedAndGranted [] [.store, .reader] s u t ∧
            slotOf u n = { slotOf s n with
              image := writeRow (slotOf s n).image (slotOf s n).rowsFilled row
              rowsFilled := (slotOf s n).rowsFilled + 1, state := .filled, fillInstant := some s.timer.clock } ∧
            slotsKept n s u ∧ u.store.queue = s.store.queue ++ [n] ∧ u.reader.transfer = none ∧
            u.reader.lastGranted = s.reader.lastGranted ∧
            stationOf u v.station = { stationOf s v.station with
              state := .idle, lastEnd := some .done, idleTimer := 0, checkFailures := 0 } ∧
            stationsKept v.station s u ∧
            ((∀ k, k < 4 → grantable u k = false) →
              (s.reader.lastGranted.all fun k => decide (k < 4)) = true → Happened [] [.store, .reader] s t ∧
              t.reader.transfer = none ∧ slotOf t n = slotOf u n ∧ t.store.queue = s.store.queue ++ [n])))) ∧
  (
    ∀ (v : Transfer) (c3 c2 c1 c0 o f1' f0 : Byte) (s : State), s.powered = true → s.reader.transfer = some v →
      v.slot = none → readyIsLow s v.station = false →
      ∃ t u, exec (.coverRecord v.station [c3, c2, c1, c0, o, f1', f0, 0 - (c3 + c2 + c1 + c0 + o + f1' + f0)]) s
          = .next t ∧
        EndedAndGranted [] [.coll, .reader] s u t ∧
        u.coll = { s.coll with covers := s.coll.covers ++
          [{ candidate := ((c3.toNat * 256 + c2.toNat) * 256 + c1.toNat) * 256 + c0.toNat, ordinal := o.toNat
             form := f1'.toNat * 256 + f0.toNat, source := some v.station, appended := s.timer.clock }] } ∧
        t.coll = u.coll ∧
        u.reader.transfer = none ∧ u.reader.lastGranted = s.reader.lastGranted ∧
        stationOf u v.station = { stationOf s v.station with
          state := .idle, lastEnd := some .done, idleTimer := 0, checkFailures := 0 } ∧
        stationsKept v.station s u)

/-- How a transfer breaks off: a failed check leaves the station IDLE, at the third in a row FAULT; a bad header, a stall
and a fault of its own end it; each frees the slot opened for a sheet, its image and export mark apart, removes the grant
and raises STATION_STATE with the slot and the rows moved, and in the same step the port is granted again (R120, R121, R123,
R124). The ready line of each station is as its last change left it, whether the station is granted or not; a
STALL is taken only of the granted station while its line is low, however long before the grant it fell, and leaves the lines
as they are, so that a station granted again in its step is timed anew (R123). While the line is low what the station offers
is held back, and a rise lets it move (R122, R123). That one item is held and moves in the step of the rise, that a header
is not held back and that the level of a station without a grant is kept is the model's reading (log entry 34);
that the 2,000 ms of a stall are the STALL command's is its choice (log entry 24). -/
def Obligations.TransfersBreakOffAndWait : Prop :=
  (
    ∀ (v : Transfer) (n : Nat) (x : Station) (next : StationState) (s : State), s.powered = true →
      s.reader.transfer = some v → v.slot = some n → stationOf s v.station = x →
      next = (if 2 ≤ x.checkFailures then .fault else .idle) →
      (∀ (i : Instr) (bytes : List Byte),
        (i = .sheetRow v.station bytes ∧ v.headerTaken = true ∧ readyIsLow s v.station = false ∧
            (bytes.length ≠ 9 ∨ sum8 bytes ≠ 0) ∨
          i = .sheetHeader v.station bytes ∧ v.headerTaken = false ∧ (bytes.length ≠ 5 ∨ sum8 bytes ≠ 0)) →
        ∃ t u, exec i s = .next t ∧
          EndedAndGranted [.stationState v.station x.kind x.state next .check s.timer.clock
            (some (some n, (slotOf s n).rowsFilled))] [.reader, .store] s u t ∧
          u.reader.transfer = none ∧ u.reader.lastGranted = s.reader.lastGranted ∧ slotsKept n s u ∧
          u.store.queue = s.store.queue ∧
          slotOf u n = { image := (slotOf s n).image, exportMark := (slotOf s n).exportMark } ∧
          stationsKept v.station s u ∧
          stationOf u v.station = { x with
            checkFailures := min 3 (x.checkFailures + 1), lastEnd := some .check
            state := if 2 ≤ x.checkFailures then .fault else .idle
            idleTimer := if 2 ≤ x.checkFailures then x.idleTimer else 0 }) ∧
      (∀ f1' f0 r1 r0 : Byte, v.headerTaken = false →
        (r1.toNat * 256 + r0.toNat < 11 ∨ 210 < r1.toNat * 256 + r0.toNat) →
        ∃ t u, exec (.sheetHeader v.station [f1', f0, r1, r0, 0 - (f1' + f0 + r1 + r0)]) s = .next t ∧
          EndedAndGranted [.stationState v.station x.kind x.state .fault .header s.timer.clock
            (some (some n, (slotOf s n).rowsFilled))] [.reader, .store] s u t ∧
          u.reader.transfer = none ∧ u.reader.lastGranted = s.reader.lastGranted ∧ slotsKept n s u ∧
          (slotOf u n).state = .free ∧ stationsKept v.station s u ∧
          stationOf u v.station = { x with state := .fault, lastEnd := some .header }) ∧
      (readyIsLow s v.station = true →
        ∃ t u, exec (.stall v.station) s = .next t ∧
          EndedAndGranted [.stationState v.station x.kind x.state .idle .stall s.timer.clock
            (some (some n, (slotOf s n).rowsFilled))] [.reader, .store] s u t ∧
          u.reader.transfer = none ∧ u.reader.lastGranted = s.reader.lastGranted ∧ slotsKept n s u ∧
          (slotOf u n).state = .free ∧ stationsKept v.station s u ∧
          stationOf u v.station = { x with state := .idle, lastEnd := some .stall, idleTimer := 0 } ∧
          (∀ m, readyIsLow u m = readyIsLow s m) ∧ ∀ m, readyIsLow t m = readyIsLow s m) ∧
      (x.state = .transferring →
        ∃ t u, exec (.stationFault v.station) s = .next t ∧
          EndedAndGranted [.stationState v.station x.kind .transferring .fault .stationFault s.timer.clock
            (some (some n, (slotOf s n).rowsFilled))] [.reader, .store] s u t ∧
          u.reader.transfer = none ∧ u.reader.lastGranted = s.reader.lastGranted ∧ slotsKept n s u ∧
          (slotOf u n).state = .free ∧ stationsKept v.station s u ∧
          stationOf u v.station = { x with state := .fault, lastEnd := some .fault, warmTimer := 0 })) ∧
  (
    ∀ (v : Transfer) (x : Station) (bytes : List Byte) (s : State), s.powered = true → s.reader.transfer = some v →
      v.slot = none → stationOf s v.station = x →
      (readyIsLow s v.station = false → (bytes.length ≠ 8 ∨ sum8 bytes ≠ 0) →
        ∃ t u, exec (.coverRecord v.station bytes) s = .next t ∧
          EndedAndGranted [.stationState v.station x.kind x.state (if 2 ≤ x.checkFailures then .fault else .idle) .check
            s.timer.clock (some (none, 0))] [.reader] s u t ∧
          u.reader.transfer = none ∧ u.reader.lastGranted = s.reader.lastGranted ∧ stationsKept v.station s u ∧
          stationOf u v.station = { x with
            checkFailures := min 3 (x.checkFailures + 1), lastEnd := some .check
            state := if 2 ≤ x.checkFailures then .fault else .idle
            idleTimer := if 2 ≤ x.checkFailures then x.idleTimer else 0 }) ∧
      (readyIsLow s v.station = true →
        ∃ t u, exec (.stall v.station) s = .next t ∧
          EndedAndGranted [.stationState v.station x.kind x.state .idle .stall s.timer.clock (some (none, 0))] [.reader] s u t ∧
          u.reader.transfer = none ∧ u.reader.lastGranted = s.reader.lastGranted ∧ stationsKept v.station s u ∧
          stationOf u v.station = { x with state := .idle, lastEnd := some .stall, idleTimer := 0 } ∧
          ∀ m, readyIsLow t m = readyIsLow s m)) ∧
  (
    ∀ (n : Nat) (s : State), s.powered = true →
      (∃ t, exec (.readyChange n false) s = .next t ∧ Happened [] [.reader] s t ∧
        t.reader = { s.reader with readyLow := t.reader.readyLow } ∧ readyIsLow t n = true ∧
        ∀ m, m ≠ n → readyIsLow t m = readyIsLow s m) ∧
      ((∀ v, s.reader.transfer = some v → v.station = n → v.held = none) →
        ∃ t, exec (.readyChange n true) s = .next t ∧ Happened [] [.reader] s t ∧
          t.reader = { s.reader with readyLow := t.reader.readyLow } ∧ readyIsLow t n = false ∧
          ∀ m, m ≠ n → readyIsLow t m = readyIsLow s m) ∧
      ((∀ v, s.reader.transfer = some v → v.station = n → readyIsLow s n = false) → exec (.stall n) s = .next s)) ∧
  (∀ (n : Nat) (high : Bool) (s : State), s.powered = false →
    exec (.readyChange n high) s = .next (putReady n (!high) s) ∧ readyIsLow (putReady n (!high) s) n = !high) ∧
  (
    ∀ (v : Transfer) (bytes : List Byte) (s : State), s.powered = true → s.reader.transfer = some v →
      (readyIsLow s v.station = true → v.held = none →
        (v.slot.isSome = true → v.headerTaken = true →
          exec (.sheetRow v.station bytes) s =
            .next { s with reader := { s.reader with transfer := some { v with held := some bytes } } }) ∧
        (v.slot = none →
          exec (.coverRecord v.station bytes) s =
            .next { s with reader := { s.reader with transfer := some { v with held := some bytes } } })) ∧
      (v.held = some bytes →
        (∀ n, v.slot = some n → v.headerTaken = true →
          exec (.readyChange v.station true) s =
            exec (.sheetRow v.station bytes) (putReady v.station false (putTransfer (some { v with held := none }) s))) ∧
        (v.slot = none →
          exec (.readyChange v.station true) s =
            exec (.coverRecord v.station bytes)
              (putReady v.station false (putTransfer (some { v with held := none }) s)))))
/-- READ_SHEET marks its slot for export and answers when its reads are done, with up to its count of rows; the mark
stays, and goes when the sending of the reply starts (R130; that the start is meant is log entry 26, the model's reading).
The reads go row by row through the store arbiter: a fill first, and of marking and export, while both wait, the one not
served last; so in the reads of the one the other is served in its turn (R129). How far the rows are read in which command
is the model's choice (log entry 26). DISCARD_SHEET frees a FILLED or HELD slot and takes it from the marking queue;
ASSIGN_SHEET puts a HELD one at the queue's head with its assigned candidate (R132, R133). -/
def Obligations.StoreRequestsAnswer : Prop :=
  (
    (∀ (tag n first count rows : Nat) (s : State), canTake (.readSheet tag n first count) s = true → n < 48 →
      1 ≤ count → count ≤ 64 → ((slotOf s n).state = .filled ∨ (slotOf s n).state = .held) →
      (slotOf s n).rowCount = some rows → first < rows →
      ∃ t, exec (.readSheet tag n first count) s = .next t ∧ Accepted [.store] s t ∧ handOverOpen t = false ∧
        slotOf t n = { slotOf s n with exportMark := true } ∧ slotsKept n s t ∧ t.store.queue = s.store.queue ∧
        t.store.readJob = some { tag := tag, slot := n, first := first, count := count, state := (slotOf s n).state
                                 form := (slotOf s n).form, rowCount := rows }) ∧
    (∀ (j : ReadJob) (s : State), s.powered = true → s.store.readJob = some j →
      ∃ t rows, exec .readSheetDone s = .next t ∧
        rows = ((slotOf s j.slot).image.drop j.first).take (min j.count (j.rowCount - j.first)) ∧
        Concluded (okReply j.tag 0x64
          ([Field.num 1 (match j.state with | .free => 0 | .filling => 1 | .filled => 2 | .marking => 3 | .held => 4),
            Field.opt 2 j.form, Field.num 2 j.rowCount, Field.num 2 j.first, Field.num 1 rows.length] ++ rows.map .bytes))
          [] [.store, .marking] s t ∧
        t.store = { (serveReads .export_ s).store with readJob := none, exporting := some j.slot } ∧
        t.marking = (serveReads .export_ s).marking ∧ (∀ n, slotOf t n = slotOf s n) ∧ t.store.queue = s.store.queue)) ∧
  (
    (∀ (marking export_ : Bool) (last : ReadPath), nextAccess true marking export_ last = some .fill ∧
      nextAccess false true true .marking = some (.read .export_) ∧
      nextAccess false true true .export_ = some (.read .marking) ∧
      nextAccess false true false last = some (.read .marking) ∧
      nextAccess false false true last = some (.read .export_) ∧ nextAccess false false false last = none) ∧
    (∀ (r : InFlight) (j : ReadJob) (m e : Nat) (s : State), s.marking.inFlight = some r → s.store.readJob = some j →
      m = (if (slotOf s r.slot).assigned.isSome then 0 else 10) + (match r.phase with
        | .identifying => 0
        | .scoring => (r.session.bind fun k => (keyOf s k).questions).getD 0) - r.rowsRead →
      e = min j.count (j.rowCount - j.first) - j.rowsRead →
      serveReads .export_ s = { s with
        store := { s.store with
          lastServed := if e = 0 then s.store.lastServed else .export_
          readJob := some { j with rowsRead := j.rowsRead + e } }
        marking := { s.marking with inFlight := some { r with
          rowsRead := r.rowsRead + min m (e - if s.store.lastServed = .marking then 1 else 0) } } } ∧
      serveReads .marking s = { s with
        store := { s.store with
          lastServed := if m = 0 then s.store.lastServed else .marking
          readJob := some { j with
            rowsRead := j.rowsRead + min e (m - if s.store.lastServed = .export_ then 1 else 0) } }
        marking := { s.marking with inFlight := some { r with rowsRead := r.rowsRead + m } } }) ∧
    ∀ (path : ReadPath) (s : State), s.marking.inFlight = none ∨ s.store.readJob = none →
      serveReads path s = { s with
        store := { s.store with
          lastServed := (serveReads path s).store.lastServed
          readJob := if path = .marking then s.store.readJob else (serveReads path s).store.readJob }
        marking := if path = .export_ then s.marking else (serveReads path s).marking }) ∧
  (
    (∀ (tag n : Nat) (s : State), canTake (.discardSheet tag n) s = true → n < 48 →
      ((slotOf s n).state = .filled ∨ (slotOf s n).state = .held) →
      ∃ t, exec (.discardSheet tag n) s = .next t ∧
        Answered (okReply tag 0x66 [Field.opt 2 (slotOf s n).form, Field.opt 1 ((slotOf s n).holdReason.map (·.ctorIdx)),
          Field.opt 4 (slotOf s n).decoded]) [] [.store] s t ∧
        slotOf t n = { image := (slotOf s n).image, exportMark := (slotOf s n).exportMark } ∧ slotsKept n s t ∧
        t.store.queue = s.store.queue.filter (· != n)) ∧
    (∀ (tag n number : Nat) (s : State), canTake (.assignSheet tag n number) s = true → n < 48 → 1 ≤ number →
      number ≤ 99999999 → (slotOf s n).state = .held →
      ((slotOf s n).receipt = none ∨ (slotOf s n).receipt = some number) →
      ∃ t, exec (.assignSheet tag n number) s = .next t ∧ Answered (okReply tag 0x67 []) [] [.store] s t ∧
        slotOf t n = { slotOf s n with
          state := .filled, assigned := some number, holdReason := none, decoded := none } ∧
        slotsKept n s t ∧ t.store.queue = n :: s.store.queue))

/-! ## Collection -/

/-- RECORD_BOOKLET and SET_DECLARED (R138, R140); COVER_TAKEN judges the oldest entry once, by the tests of R136 in their order:
its form is a session's, its candidate is that session's, has sat and has finished, the ordinal is 1 to 9, new, and before the
candidate's collection (R135, R136). -/
def Obligations.CoversAreQueuedAndJudged : Prop :=
  (∀ (tag number ordinal form : Nat) (s : State), canTake (.recordBooklet tag number ordinal form) s = true →
    1 ≤ number → number ≤ 99999999 → 1 ≤ ordinal → ordinal ≤ 9 → s.coll.covers.length < 32 →
    (coverTransfer s = true → s.coll.covers.length < 31) →
    ∃ t, exec (.recordBooklet tag number ordinal form) s = .next t ∧
      Answered (okReply tag 0x70 [Field.num 1 (s.coll.covers.length + 1)]) [] [.coll] s t ∧
      t.coll = { s.coll with covers := s.coll.covers ++
        [{ candidate := number, ordinal := ordinal, form := form, source := none, appended := s.timer.clock }] }) ∧
  (∀ (tag number count : Nat) (c : Candidate) (s : State), canTake (.setDeclared tag number count) s = true →
    1 ≤ count → count ≤ 9 → candidateOf s number = some c → (c.state = .finished ∨ c.state = .left) →
    ∃ t, exec (.setDeclared tag number count) s = .next t ∧
      Answered (okReply tag 0x71 [Field.num 2 (setBits c.covers)]) [] [.roster] s t ∧
      candidateOf t number = some { c with declared := some count } ∧ othersKept number s t) ∧
  (∀ (e : CoverEntry) (rest : List CoverEntry) (k : Nat) (c : Candidate) (s : State), s.powered = true →
    s.coll.covers = e :: rest → sessionOfForm s e.form = some k → candidateOf s e.candidate = some c → c.slot = k →
    ((c.state = .finished ∨ c.state = .left) ∧ 1 ≤ e.ordinal ∧ e.ordinal ≤ 9 ∧ e.ordinal ∉ c.covers →
      ∃ t d, exec .coverTaken s = .next t ∧ Happened [] [.coll, .roster] s t ∧
        t.coll = { s.coll with covers := rest } ∧ candidateOf t c.number = some d ∧ othersKept c.number s t ∧
        d = { c with covers := d.covers } ∧ ∀ o, o ∈ d.covers ↔ o = e.ordinal ∨ o ∈ c.covers) ∧
    (∀ r, ((c.state = .assigned ∨ c.state = .present ∨ timeRuns c = true) ∧ r = .early ∨
        (c.state = .listed ∨ c.state = .absent ∨ c.state = .withdrawn) ∧ r = .notSat ∨
        (c.state = .finished ∨ c.state = .left ∨ c.state = .collected) ∧ (e.ordinal = 0 ∨ 9 < e.ordinal) ∧
          r = .badOrdinal ∨
        (c.state = .finished ∨ c.state = .left ∨ c.state = .collected) ∧ 1 ≤ e.ordinal ∧ e.ordinal ≤ 9 ∧
          e.ordinal ∈ c.covers ∧ r = .duplicate ∨
        c.state = .collected ∧ 1 ≤ e.ordinal ∧ e.ordinal ≤ 9 ∧ e.ordinal ∉ c.covers ∧ r = .extraAfterCollection) →
      ∃ t, exec .coverTaken s = .next t ∧
        Happened [.coverRefused r e (some k) (some (c.state, c.declared))] [.coll] s t ∧
        t.coll = { s.coll with covers := rest })) ∧
  (∀ (e : CoverEntry) (rest : List CoverEntry) (s : State), s.powered = true → s.coll.covers = e :: rest →
    (sessionOfForm s e.form = none →
      ∃ t, exec .coverTaken s = .next t ∧ Happened [.coverRefused .formUnknown e none none] [.coll] s t ∧
        t.coll = { s.coll with covers := rest }) ∧
    (∀ k, sessionOfForm s e.form = some k → (∀ c, candidateOf s e.candidate = some c → c.slot ≠ k) →
      ∃ t, exec .coverTaken s = .next t ∧ Happened [.coverRefused .idUnknown e (some k) none] [.coll] s t ∧
        t.coll = { s.coll with covers := rest })) ∧
  (∀ (form : Nat) (s : State),
    (sessionOfForm s form = none ↔ ∀ k, k < 8 → (sessionOf s k).state = .free ∨ (sessionOf s k).form ≠ form) ∧
    (∀ k, sessionOfForm s form = some k ↔ k < 8 ∧ (sessionOf s k).state ≠ .free ∧ (sessionOf s k).form = form ∧
      ∀ j, j < k → (sessionOf s j).state = .free ∨ (sessionOf s j).form ≠ form))

/-- OPEN_COLLECTION, COLLECT_SWEEP and CLOSE_BUNDLE (R141, R142, R151, R153). ACCEPT_EXCEPTION collects a FINISHED or LEFT
candidate of a COLLECTING session whatever its script lacks, and flags it EXCEPTION; its reply gives the bundle number,
whether the bundle closed, full or with its session, and the reason the sweep would have given, or NONE (R144, R148, R150,
R153). That the reason goes as the place of its choice is the model's choice (log entry 42). -/
def Obligations.CollectionOpensAndAccepts : Prop :=
  (
    (∀ (tag slot : Nat) (s : State), canTake (.openCollection tag slot) s = true → slot < 8 →
      ((sessionOf s slot).state = .ended ∨ (sessionOf s slot).state = .void_) →
      ∃ t ns settled, exec (.openCollection tag slot) s = .next t ∧
        settled = (s.roster.filter fun c => c.slot == slot).all
          (fun c => decide (c.state = .collected ∨ c.state = .absent ∨ c.state = .withdrawn)) ∧
        Answered (okReply tag 0x72
          [Field.num 1 (if settled then 8 else 7),
           Field.num 2 (s.roster.filter fun c => c.slot == slot && decide (c.state = .finished)).length,
           Field.num 2 (s.roster.filter fun c => c.slot == slot && decide (c.state = .left)).length]) ns [.timer, .coll] s t ∧
        sessionOf t slot = { sessionOf s slot with state := if settled then .closed else .collecting } ∧
        sessionsKept slot s t ∧ (settled = false → t.coll = s.coll)) ∧
    (∀ (tag slot first count : Nat) (s : State), canTake (.collectSweep tag slot first count) s = true → slot < 8 →
      first < 960 → 1 ≤ count → first + count ≤ 960 → (sessionOf s slot).state = .collecting → s.coll.sweep = none →
      ∃ t, exec (.collectSweep tag slot first count) s = .next t ∧ Accepted [.coll] s t ∧
        t.coll = { s.coll with sweep := some {
            slot := slot, first := first, count := count, next := first, swept := 0, collected := 0, bundlesClosed := 0
            tag := tag } }) ∧
    (∀ (tag slot h : Nat) (b : Bundle) (s : State), canTake (.closeBundle tag slot) s = true → slot < 8 →
      openBundleOf s slot = some h → bundleOf s h = some b →
      ∃ t, exec (.closeBundle tag slot) s = .next t ∧
        Answered (okReply tag 0x75 [Field.num 2 b.number, Field.num 1 b.entries.length]) [] [.coll] s t ∧
        bundleOf t h = some { b with isOpen := false, closed := some s.timer.clock, closeCause := some .host } ∧
        (∀ g, g ≠ h → bundleOf t g = bundleOf s g) ∧ openBundleOf t slot = none ∧
        (∀ k, k ≠ slot → openBundleOf t k = openBundleOf s k) ∧ t.coll.covers = s.coll.covers ∧
        t.coll.sweep = s.coll.sweep)) ∧
  (
    ∀ (tag number h : Nat) (c : Candidate) (s : State), canTake (.acceptException tag number) s = true →
      1 ≤ number → number ≤ 99999999 → candidateOf s number = some c → (c.state = .finished ∨ c.state = .left) →
      (sessionOf s c.slot).state = .collecting → headerFor s c.slot = some h →
      ∃ t b, exec (.acceptException tag number) s = .next t ∧ keeps [.coll, .roster, .seatMap, .desk, .timer] s t ∧
        t.link.replies = s.link.replies ++ [okReply tag 0x74
          [Field.num 2 (bundleToFill s c.slot).number, Field.num 1 (if b.isOpen then 0 else 1),
           Field.opt 1 (match scriptFailure (sessionOf s c.slot) c with
             | none => none
             | some (.undeclared, _) => some 0
             | some (.missing, _) => some 1
             | some (.extra, _) => some 2
             | some (.noSheet, _) => some 3)]] ∧
        candidateOf t number = some { c with
          state := .collected, stateSince := { at_ := s.timer.clock }, seat := none, seatSince := none
          bundle := some (bundleToFill s c.slot).number, exception := true } ∧
        othersKept number s t ∧
        (∀ n, c.seat = some n → (seatOf t n).candidate = none ∧
          SeatOwedAt (seatOf s n).line (seatOf s n).address s t) ∧
        bundleOf t h = some b ∧ b.number = (bundleToFill s c.slot).number ∧
        b.entries = (bundleToFill s c.slot).entries ++ [number] ∧
        ((sessionOf s c.slot).bundleSize ≤ (bundleToFill s c.slot).entries.length + 1 →
          b.isOpen = false ∧ b.closeCause = some .size ∧ openBundleOf t c.slot = none) ∧
        (RosterSound s →
          ((∀ e ∈ s.roster, e.number ≠ number → e.slot = c.slot →
              e.state = .collected ∨ e.state = .absent ∨ e.state = .withdrawn) →
            sessionOf t c.slot = { sessionOf s c.slot with state := .closed } ∧ b.isOpen = false ∧
              openBundleOf t c.slot = none) ∧
          ((∃ e ∈ s.roster, e.number ≠ number ∧ e.slot = c.slot ∧
              ¬(e.state = .collected ∨ e.state = .absent ∨ e.state = .withdrawn)) →
            sessionOf t c.slot = sessionOf s c.slot ∧
            ((bundleToFill s c.slot).entries.length + 1 < (sessionOf s c.slot).bundleSize →
              b.isOpen = (bundleToFill s c.slot).isOpen))))

/-- A script is complete for collection exactly when its candidate has declared a number, every ordinal up to it and none
above it is received, and its sheet is in where the session requires one; the first test failed gives the reason (R144). A
sweep's step collects a complete script: COLLECTED, its seat freed, its number in the session's bundle, the bundle closed
when it is full and the session when its candidates are all settled; it passes over a seat with nothing to collect. The
sweep ends with OK at its seat count or where its session has been CLOSED, with DISCREPANCY at an incomplete script, with
FULL where no bundle header is free (R143 to R145, R150, R153). An ended sweep takes no further step. That its record stands
until TRANSMIT_START takes its reply is the model's reading of R145 (log entry 47); that DISCREPANCY's reason goes as the
place of its choice is its choice (log entry 42), and the 2 bytes of the bundles closed log entry 57. -/
def Obligations.ScriptsAreCheckedAndCollected : Prop :=
  (
    ∀ (x : Session) (c : Candidate),
      (scriptFailure x c = none ↔
        ∃ d, c.declared = some d ∧ (∀ n, 1 ≤ n → n ≤ d → n ∈ c.covers) ∧ (∀ n ∈ c.covers, n ≤ d) ∧
          (x.sheetRequired = true → c.sheetReceived = true)) ∧
      (scriptFailure x c = some (.undeclared, none) ↔ c.declared = none) ∧
      (∀ d n, c.declared = some d → 1 ≤ n → n ≤ d → n ∉ c.covers → (∀ m, 1 ≤ m → m < n → m ∈ c.covers) →
        scriptFailure x c = some (.missing, some n)) ∧
      (∀ d n, c.declared = some d → (∀ m, 1 ≤ m → m ≤ d → m ∈ c.covers) → n ∈ c.covers → d < n →
        (∀ m ∈ c.covers, d < m → n ≤ m) → scriptFailure x c = some (.extra, some n)) ∧
      (∀ d, c.declared = some d → (∀ m, 1 ≤ m → m ≤ d → m ∈ c.covers) → (∀ m ∈ c.covers, m ≤ d) →
        x.sheetRequired = true → c.sheetReceived = false → scriptFailure x c = some (.noSheet, none))) ∧
  (
    ∀ (r : Sweep) (s : State),
      (∀ c, seatToCheck s r = some c ↔ (seatOf s r.next).state ≠ .undefined ∧
        (seatOf s r.next).candidate = some c.number ∧ candidateOf s c.number = some c ∧ c.slot = r.slot ∧
        (c.state = .finished ∨ c.state = .left)) ∧
      (∀ h, headerFor s r.slot = some h ↔
        (∃ b, openBundleOf s r.slot = some h ∧ bundleOf s h = some b) ∨
        (∀ g b, openBundleOf s r.slot = some g → bundleOf s g ≠ some b) ∧ h < 256 ∧ bundleOf s h = none ∧
          ∀ g, g < h → bundleOf s g ≠ none) ∧
      (∀ h b, openBundleOf s r.slot = some h → bundleOf s h = some b → bundleToFill s r.slot = b) ∧
      ((∀ g b, openBundleOf s r.slot = some g → bundleOf s g ≠ some b) →
        (bundleToFill s r.slot).number = nextBundleOf s r.slot ∧ (bundleToFill s r.slot).entries = [])) ∧
  (
    (∀ (r r' : Sweep) (c : Candidate) (h : Nat) (filled : Bool) (s : State), s.powered = true → RosterSound s →
      s.coll.sweep = some r → r.ended = false →
      (sessionOf s r.slot).state = .collecting → seatToCheck s r = some c → scriptFailure (sessionOf s r.slot) c = none →
      headerFor s r.slot = some h →
      filled = decide ((sessionOf s r.slot).bundleSize ≤ (bundleToFill s r.slot).entries.length + 1) →
      r' = { r with
        swept := r.swept + 1, next := r.next + 1, collected := r.collected + 1
        bundlesClosed := r.bundlesClosed + filled.toNat } →
      ∃ t, exec .sweepStep s = .next t ∧ keeps [.coll, .roster, .seatMap, .desk, .timer] s t ∧
        candidateOf t c.number = some { c with
          state := .collected, stateSince := { at_ := s.timer.clock }, seat := none, seatSince := none
          bundle := some (bundleToFill s r.slot).number } ∧
        othersKept c.number s t ∧
        (∀ n, c.seat = some n → (seatOf t n).candidate = none ∧
          SeatOwedAt (seatOf s n).line (seatOf s n).address s t) ∧
        (∃ b, bundleOf t h = some b ∧ b.number = (bundleToFill s r.slot).number ∧
          b.entries = (bundleToFill s r.slot).entries ++ [c.number] ∧
          (filled = true → b.isOpen = false ∧ b.closeCause = some .size ∧ openBundleOf t r.slot = none)) ∧
        ((∀ e ∈ s.roster, e.number ≠ c.number → e.slot = r.slot →
            e.state = .collected ∨ e.state = .absent ∨ e.state = .withdrawn) →
          sessionOf t r.slot = { sessionOf s r.slot with state := .closed } ∧ openBundleOf t r.slot = none) ∧
        ((∃ e ∈ s.roster, e.number ≠ c.number ∧ e.slot = r.slot ∧
            ¬(e.state = .collected ∨ e.state = .absent ∨ e.state = .withdrawn)) →
          sessionOf t r.slot = sessionOf s r.slot) ∧
        (r.count ≤ r.swept + 1 → t.coll.sweep = some { r' with ended := true } ∧
          t.link.replies = s.link.replies ++ [longReply r.tag 0x73
            [Field.num 2 r'.swept, Field.num 2 r'.collected, Field.num 2 r'.bundlesClosed,
             Field.opt 2 ((openBundle t r.slot).map fun p => p.2.number)]]) ∧
        (r.swept + 1 < r.count → t.coll.sweep = some r' ∧ t.link.replies = s.link.replies)) ∧
    (∀ (r : Sweep) (s : State), s.powered = true → s.coll.sweep = some r → r.ended = false →
      (sessionOf s r.slot).state = .collecting → seatToCheck s r = none →
      ∃ t, exec .sweepStep s = .next t ∧
        (r.swept + 1 < r.count → Happened [] [.coll] s t ∧
          t.coll = { s.coll with sweep := some { r with swept := r.swept + 1, next := r.next + 1 } }) ∧
        (r.count ≤ r.swept + 1 →
          Concluded (longReply r.tag 0x73 [Field.num 2 (r.swept + 1), Field.num 2 r.collected,
            Field.num 2 r.bundlesClosed, Field.opt 2 ((openBundle s r.slot).map fun p => p.2.number)]) [] [.coll] s t ∧
          t.coll = { s.coll with sweep := some { r with swept := r.swept + 1, next := r.next + 1, ended := true } })) ∧
    (∀ (r : Sweep) (s : State), s.powered = true → s.coll.sweep = some r → r.ended = false →
      (sessionOf s r.slot).state ≠ .collecting →
      ∃ t, exec .sweepStep s = .next t ∧
        Concluded (longReply r.tag 0x73 [Field.num 2 r.count, Field.num 2 r.collected, Field.num 2 r.bundlesClosed,
          Field.opt 2 ((openBundle s r.slot).map fun p => p.2.number)]) [] [.coll] s t ∧
        t.coll = { s.coll with sweep := some { r with swept := r.count, ended := true } }) ∧
    (∀ (r : Sweep) (c : Candidate) (d : Discrepancy) (o : Option Nat) (s : State), s.powered = true →
      s.coll.sweep = some r → r.ended = false → (sessionOf s r.slot).state = .collecting → seatToCheck s r = some c →
      scriptFailure (sessionOf s r.slot) c = some (d, o) →
      ∃ t, exec .sweepStep s = .next t ∧ t.coll = { s.coll with sweep := some { r with ended := true } } ∧
        Failed ⟨r.tag, 0x73, .discrepancy,
          [Field.num 2 r.next, Field.num 4 c.number,
           Field.num 1 (match d with | .undeclared => 0 | .missing => 1 | .extra => 2 | .noSheet => 3), Field.opt 1 o,
           Field.num 2 (r.first + r.count - r.next), Field.num 2 r.collected, Field.num 2 r.bundlesClosed], true⟩
          (match d with | .undeclared => .undeclared | .missing => .missing | .extra => .extra | .noSheet => .noSheet)
          (some r.next) [.coll] s t) ∧
    (∀ (r : Sweep) (c : Candidate) (s : State), s.powered = true → s.coll.sweep = some r → r.ended = false →
      (sessionOf s r.slot).state = .collecting → seatToCheck s r = some c →
      scriptFailure (sessionOf s r.slot) c = none → headerFor s r.slot = none →
      ∃ t, exec .sweepStep s = .next t ∧ t.coll = { s.coll with sweep := some { r with ended := true } } ∧
        Failed ⟨r.tag, 0x73, .full,
          [Field.num 2 r.next, Field.num 4 c.number, Field.num 2 (r.first + r.count - r.next), Field.num 2 r.collected,
           Field.num 2 r.bundlesClosed], true⟩ .bundleTableFull (some c.number) [.coll] s t) ∧
    (∀ s : State, s.coll.sweep.all (·.ended) = true → exec .sweepStep s = .next s))

/-! ## Answer keys and marking -/

/-- BEGIN_KEY, KEY_PAGE and COMMIT_KEY (R157, R160 to R162): BEGIN_KEY is refused with BUSY and SHEET_MARKING while a store slot
with the session's form code is MARKING, and with BUSY and REMARK_RUNNING while a REMARK of the session runs; a page's reply gives the questions now defined and the lowest one
still undefined, and a commit requeues, in slot number order, the slots HELD with NO_KEY that carry the key's form code. -/
def Obligations.KeysAreLoaded : Prop :=
  (∀ (tag slot questions policy floor : Nat) (tm tf : Option Nat) (s : State),
    canTake (.beginKey tag slot questions policy floor tm tf) s = true → slot < 8 → 1 ≤ questions → questions ≤ 200 →
    policy ≤ 1 → floor ≤ 1 → 2 ≤ tm.getD 160 → tm.getD 160 ≤ 255 → 1 ≤ tf.getD 96 → tf.getD 96 < tm.getD 160 →
    (sessionOf s slot).state ≠ .free → formMarking s (sessionOf s slot).form = false → remarkOf s slot = false →
    ∃ t, exec (.beginKey tag slot questions policy floor tm tf) s = .next t ∧
      Answered (okReply tag 0x80 [Field.num 2 (s.roster.filter fun c => c.slot == slot &&
        c.marks.any fun m => decide (m.status = .current)).length]) [] [.marking, .roster] s t ∧
      keyOf t slot = { keyOf s slot with
        state := .loading, questions := some questions, policy := if policy = 0 then .wrong else .blank
        floor := floor == 1, markThreshold := tm.getD 160, faintThreshold := tf.getD 96, entries := [] } ∧
      (∀ k, k ≠ slot → keyOf t k = keyOf s k) ∧
      t.roster = s.roster.map (fun c =>
        if c.slot = slot then { c with marks := c.marks.map fun m => { m with status := .stale } } else c)) ∧
  (∀ (tag slot first count q : Nat) (es : List QuestionEntry) (s : State),
    canTake (.keyPage tag slot first count es) s = true → slot < 8 → 1 ≤ count → count ≤ 25 → es.length = count →
    (keyOf s slot).state = .loading → (keyOf s slot).questions = some q → 1 ≤ first → first + count ≤ q + 1 →
    (∀ e ∈ es, (entryQuestion e).isSome = true) →
    ∃ t, exec (.keyPage tag slot first count es) s = .next t ∧
      Answered (okReply tag 0x81
        [Field.num 1 ((List.range q).filter fun i => (questionOf (keyOf t slot) (i + 1)).isSome).length,
         Field.opt 2 (lowestUndefined (keyOf t slot))]) [] [.marking] s t ∧
      keyOf t slot = { keyOf s slot with entries := (keyOf t slot).entries } ∧
      (∀ k, k ≠ slot → keyOf t k = keyOf s k) ∧
      (∀ i, i < es.length → questionOf (keyOf t slot) (first + i) = es[i]?.bind entryQuestion) ∧
      ∀ m, (m < first ∨ first + es.length ≤ m) → questionOf (keyOf t slot) m = questionOf (keyOf s slot) m) ∧
  (∀ (k : Key) (q : Nat), k.questions = some q →
    (∀ n, lowestUndefined k = some n ↔
      1 ≤ n ∧ n ≤ q ∧ questionOf k n = none ∧ ∀ m, 1 ≤ m → m < n → questionOf k m ≠ none) ∧
    (lowestUndefined k = none ↔ ∀ n, 1 ≤ n → n ≤ q → questionOf k n ≠ none)) ∧
  (∀ (form : Option Nat) (s : State), (noKeySlots s form).Pairwise (· < ·) ∧
    ∀ n, n ∈ noKeySlots s form ↔ n < 48 ∧ (slotOf s n).state = .held ∧ (slotOf s n).holdReason = some .noKey ∧
      (slotOf s n).form.isSome = true ∧ (slotOf s n).form = form) ∧
  (∀ (tag slot : Nat) (s : State), canTake (.commitKey tag slot) s = true → slot < 8 →
    (keyOf s slot).state = .loading → lowestUndefined (keyOf s slot) = none →
    ∃ t g ns, exec (.commitKey tag slot) s = .next t ∧
      g = (if 255 ≤ (keyOf s slot).generation then 1 else (keyOf s slot).generation + 1) ∧
      ns = noKeySlots s (keyOf s slot).form ∧
      Answered (okReply tag 0x82 [Field.num 1 g, Field.num 1 ns.length,
        Field.num 2 (s.roster.filter fun c => c.slot == slot &&
          c.marks.any fun m => decide (m.status = .stale)).length]) [] [.marking, .store] s t ∧
      keyOf t slot = { keyOf s slot with state := .ready, generation := g } ∧
      (∀ k, k ≠ slot → keyOf t k = keyOf s k) ∧ t.store.queue = s.store.queue ++ ns ∧
      ∀ n, slotOf t n = if n ∈ ns then { slotOf s n with state := .filled, holdReason := none } else slotOf s n) ∧
  (∀ (slot form : Nat) (s : State),
    (formMarking s form = true ↔ ∃ n, n < 48 ∧ (slotOf s n).state = .marking ∧ (slotOf s n).form = some form) ∧
    (remarkOf s slot = true ↔ ∃ r, s.marking.remark = some r ∧ r.slot = slot)) ∧
  (∀ (tag slot questions policy floor : Nat) (tm tf : Option Nat) (s : State),
    canTake (.beginKey tag slot questions policy floor tm tf) s = true → slot < 8 → 1 ≤ questions → questions ≤ 200 →
    policy ≤ 1 → floor ≤ 1 → 2 ≤ tm.getD 160 → tm.getD 160 ≤ 255 → 1 ≤ tf.getD 96 → tf.getD 96 < tm.getD 160 →
    (sessionOf s slot).state ≠ .free →
    ∃ t, exec (.beginKey tag slot questions policy floor tm tf) s = .next t ∧
      (formMarking s (sessionOf s slot).form = true → Refused tag 0x80 .busy .sheetMarking none s t) ∧
      (formMarking s (sessionOf s slot).form = false → remarkOf s slot = true →
        Refused tag 0x80 .busy .remarkRunning none s t))

/-- A question's score and category by the table of R172, and the response entry that holds them, whose faint flag changes
neither. -/
def Obligations.QuestionScoresByTheTable : Prop :=
  (∀ (k : Key) (n : Nat) (q : Question) (marked : Byte) (faint : Bool), questionOf k n = some q →
    scoreEntry k n marked faint =
      { marked := marked, faint := faint, category := (scoreQuestion k.policy q marked).2
        score := (scoreQuestion k.policy q marked).1 }) ∧
  ∀ (p : Policy) (q : Question) (marked : Byte),
    (q.kind = .void_ → scoreQuestion p q marked = (0, .void_)) ∧
    (q.kind = .single → marked = 0 → scoreQuestion p q marked = (0, .blank)) ∧
    (q.kind = .single → (options marked).length = 1 → marked = q.correct →
      scoreQuestion p q marked = ((q.weight : Int), .correct)) ∧
    (q.kind = .single → (options marked).length = 1 → marked ≠ q.correct →
      scoreQuestion p q marked = (-(q.penalty : Int), .wrong)) ∧
    (q.kind = .single → 2 ≤ (options marked).length → p = .wrong →
      scoreQuestion p q marked = (-(q.penalty : Int), .multi)) ∧
    (q.kind = .single → 2 ≤ (options marked).length → p = .blank → scoreQuestion p q marked = (0, .multi)) ∧
    (q.kind = .multi → marked = q.correct → scoreQuestion p q marked = ((q.weight : Int), .correct)) ∧
    (q.kind = .multi → marked = 0 → q.correct ≠ 0 → scoreQuestion p q marked = (0, .blank)) ∧
    (q.kind = .multi → marked ≠ 0 → marked ≠ q.correct → scoreQuestion p q marked = (-(q.penalty : Int), .wrong))

/-- The percent in tenths: 0 for a maximum of 0 or a total that is not positive, else 1,000 t / m rounded to the nearest, a half
up, and never above 1,000 while the total is at most the maximum (R174). -/
def Obligations.PercentIsRoundedHalfUp : Prop :=
  ∀ (t : Int) (m : Nat),
    (m = 0 → percentOf t m = 0) ∧ (t ≤ 0 → percentOf t m = 0) ∧
    (0 < m → 0 < t →
      2 * (m : Int) * percentOf t m ≤ 2000 * t + m ∧ 2000 * t + m < 2 * (m : Int) * (percentOf t m + 1)) ∧
    (t ≤ m → percentOf t m ≤ 1000) ∧
    (∀ (k : Key) (es : List Response) (clock : Nat) (b : Bool),
      (marksOf k es clock b).total = totalOf k es ∧
      (marksOf k es clock b).percent = percentOf (totalOf k es) (marksOf k es clock b).maximum)

/-- The sheet's totals: the sum of the scores, raised to 0 by floor at zero; the maximum; the category counts, which make
Q, the faint count and REVIEW; and their bounds (R173). The entries themselves: question q reads image row 9 + q; bubble k
is marked exactly when its darkness is at or above the mark threshold, and the entry is faint exactly when some bubble
lies from the faint threshold to below it; score and category are those of the marked set against the key's entry (R171,
R172, R177). -/
def Obligations.TotalsStayInBounds : Prop :=
  ∀ (k : Key) (image : List (List Byte)) (n : Nat), k.questions = some n →
    (∀ q x, questionOf k q = some x → x.weight ≤ 40 ∧ x.penalty ≤ 40) →
    ((sheetResponses k image).length = n ∧
      totalOf k (sheetResponses k image) ≤ keyMaximum k ∧
      (k.floor = true → 0 ≤ totalOf k (sheetResponses k image)) ∧
      -(40 * (n : Int)) ≤ totalOf k (sheetResponses k image) ∧ keyMaximum k ≤ 40 * n ∧
      countCategory (sheetResponses k image) .correct + countCategory (sheetResponses k image) .wrong +
        countCategory (sheetResponses k image) .blank + countCategory (sheetResponses k image) .multi +
        countCategory (sheetResponses k image) .void_ = n) ∧
    (∀ i, i < n → ∃ e, (sheetResponses k image)[i]? = some e ∧
      (∀ b, b < 8 → (e.marked.getLsbD b = true ↔
        k.markThreshold ≤ (((image.getD (10 + i) []).getD b 0).toNat))) ∧
      (e.faint = true ↔ ∃ b, b < 8 ∧ k.faintThreshold ≤ (((image.getD (10 + i) []).getD b 0).toNat) ∧
        (((image.getD (10 + i) []).getD b 0).toNat) < k.markThreshold) ∧
      ∀ x, questionOf k (i + 1) = some x → (e.score, e.category) = scoreQuestion k.policy x e.marked) ∧
    (∀ es : List Response, totalOf k es =
      if k.floor = true ∧ (es.map (·.score)).sum < 0 then 0 else (es.map (·.score)).sum) ∧
    keyMaximum k = (((List.range n).filterMap fun i => questionOf k (i + 1)).map fun q =>
      if q.kind = .void_ then 0 else q.weight).sum ∧
    ∀ (es : List Response) (clock : Nat) (b : Bool) (m : Marks), m = marksOf k es clock b →
      m.total = totalOf k es ∧ m.maximum = keyMaximum k ∧ m.correct = countCategory es .correct ∧
      m.wrong = countCategory es .wrong ∧ m.blank = countCategory es .blank ∧ m.multi = countCategory es .multi ∧
      m.void_ = countCategory es .void_ ∧ m.faint = (es.filter (·.faint)).length ∧
      m.review = decide (1 ≤ (es.filter (·.faint)).length)

/-- The engine takes the head of the marking queue, and an identification of a readable sheet whose candidate's time is
over gives its receipt and goes on to the scoring; a sheet whose own receipt stands passes for that candidate (R164 to
R169). Every other identification holds the sheet, by the first test that fails, and raises SHEET_HELD (R165 to R170):
that the notice of FORM_UNKNOWN names no identity, even with an assigned number, is log entry 43, the model's inference.
Decoding: eight positions with exactly one digit row each at or above ID_THRESHOLD give the number, position 0 the most
significant; eight zeros and the lowest position with no row or several are unreadable (R166). The scoring writes the
candidate's result and responses, frees the slot and raises SHEET_MARKED (R171 to R177). How far an export's rows are read
in these steps is the model's choice (log entry 26), and so are that SHEET_MARKED has no field for the receipt (log entry
69), that a receipt stands as the slot holds it (log entry 70), and that a new receipt takes the place of the one a requeued
slot already holds (log entry 78). -/
def Obligations.SheetsAreIdentifiedAndScored : Prop :=
  (
    (∀ (n : Nat) (rest : List Nat) (s : State), s.powered = true → s.marking.inFlight = none →
      s.store.queue = n :: rest →
      ∃ t, exec .markingTake s = .next t ∧ Happened [] [.marking, .store] s t ∧ t.store.queue = rest ∧
        slotOf t n = { slotOf s n with state := .marking } ∧ slotsKept n s t ∧
        t.marking = { s.marking with inFlight := some {
            slot := n, phase := .identifying, identity := (slotOf s n).assigned, session := none, generation := none
            rowsRead := 0 } }) ∧
    (∀ (r : InFlight) (k number form rows q : Nat) (c : Candidate) (s : State), s.powered = true →
      s.marking.inFlight = some r → r.phase = .identifying → (slotOf s r.slot).form = some form →
      sessionOfForm s form = some k →
      ((slotOf s r.slot).assigned = some number ∨
        (slotOf s r.slot).assigned = none ∧
          decodeNumber (slotOf s r.slot).image s.link.options.idThreshold = .number number) →
      candidateOf s number = some c → c.slot = k →
      (c.state = .finished ∨ c.state = .left ∨ c.state = .collected) → c.sheetReceived = false →
      (keyOf s k).state = .ready → (keyOf s k).questions = some q → (slotOf s r.slot).rowCount = some rows →
      10 + q ≤ rows →
      ∃ t, exec .identification s = .next t ∧ Happened [] [.marking, .store, .roster] s t ∧
        candidateOf t number = some { c with sheetReceived := true } ∧ othersKept number s t ∧
        (slotOf t r.slot).receipt = some number ∧ (slotOf t r.slot).state = (slotOf s r.slot).state ∧
        slotOf t r.slot = { slotOf s r.slot with
          receipt := some number
          decoded := if (slotOf s r.slot).assigned.isSome then (slotOf s r.slot).decoded else some number } ∧
        slotsKept r.slot s t ∧ t.store.queue = s.store.queue ∧
        t.store = { (serveReads .marking s).store with slots := t.store.slots } ∧
        ∃ r', t.marking = { s.marking with inFlight := some r' } ∧ r'.slot = r.slot ∧ r'.phase = .scoring ∧
          r'.identity = some number ∧ r'.session = some k ∧ r'.generation = some (keyOf s k).generation) ∧
    (∀ (r : InFlight) (k number form rows q : Nat) (c : Candidate) (s : State), s.powered = true →
      s.marking.inFlight = some r → r.phase = .identifying → (slotOf s r.slot).form = some form →
      sessionOfForm s form = some k →
      ((slotOf s r.slot).assigned = some number ∨
        (slotOf s r.slot).assigned = none ∧
          decodeNumber (slotOf s r.slot).image s.link.options.idThreshold = .number number) →
      candidateOf s number = some c → c.slot = k →
      (c.state = .finished ∨ c.state = .left ∨ c.state = .collected) → c.sheetReceived = true →
      (slotOf s r.slot).receipt = some number →
      (keyOf s k).state = .ready → (keyOf s k).questions = some q → (slotOf s r.slot).rowCount = some rows →
      10 + q ≤ rows →
      ∃ t r', exec .identification s = .next t ∧ Happened [] [.marking, .store] s t ∧
        slotOf t r.slot = { slotOf s r.slot with
          decoded := if (slotOf s r.slot).assigned.isSome then (slotOf s r.slot).decoded else some number } ∧
        slotsKept r.slot s t ∧ t.store = { (serveReads .marking s).store with slots := t.store.slots } ∧
        t.marking = { s.marking with inFlight := some r' } ∧ r'.slot = r.slot ∧ r'.phase = .scoring ∧
          r'.identity = some number ∧ r'.session = some k ∧ r'.generation = some (keyOf s k).generation) ∧
    (∀ (r : InFlight) (k form : Nat) (s : State), s.powered = true →
      s.marking.inFlight = some r → r.phase = .identifying → (slotOf s r.slot).form = some form →
      sessionOfForm s form = some k →
      (∀ why : Unreadable, (slotOf s r.slot).assigned = none →
        decodeNumber (slotOf s r.slot).image s.link.options.idThreshold = .unreadable why →
        ∃ t, exec .identification s = .next t ∧
          Happened [.sheetHeld r.slot (some form) .idUnreadable (some k) none (slotOf s r.slot).receipt.isSome (some why) none]
            [.marking, .store] s t ∧
          slotOf t r.slot = { slotOf s r.slot with
            state := .held, holdReason := some .idUnreadable, decoded := none } ∧ slotsKept r.slot s t ∧
          t.store = { (serveReads .marking s).store with slots := t.store.slots } ∧
          t.marking = { s.marking with inFlight := none }) ∧
      ∀ (number : Nat) (assigned : Bool), assigned = (slotOf s r.slot).assigned.isSome →
        ((slotOf s r.slot).assigned = some number ∨
          (slotOf s r.slot).assigned = none ∧
            decodeNumber (slotOf s r.slot).image s.link.options.idThreshold = .number number) →
        (∀ reason : HoldReason,
          (reason = .idUnknown ∧ (∀ c, candidateOf s number = some c → c.slot ≠ k) ∨
            ∃ c, candidateOf s number = some c ∧ c.slot = k ∧
              (reason = .early ∧ (c.state = .assigned ∨ c.state = .present ∨ timeRuns c = true) ∨
                reason = .notSat ∧ (c.state = .listed ∨ c.state = .absent ∨ c.state = .withdrawn) ∨
                reason = .duplicate ∧ (c.state = .finished ∨ c.state = .left ∨ c.state = .collected) ∧
                  c.sheetReceived = true ∧ (slotOf s r.slot).receipt ≠ some number)) →
          ∃ t, exec .identification s = .next t ∧
            Happened [.sheetHeld r.slot (some form) reason (some k) (some (number, assigned))
              (slotOf s r.slot).receipt.isSome none none] [.marking, .store] s t ∧
            slotOf t r.slot = { slotOf s r.slot with
              state := .held, holdReason := some reason
              decoded := if assigned then (slotOf s r.slot).decoded else some number } ∧ slotsKept r.slot s t ∧
            t.store = { (serveReads .marking s).store with slots := t.store.slots } ∧
            t.marking = { s.marking with inFlight := none }) ∧
        (∀ (c : Candidate) (reason : HoldReason) (shortage : Option (Nat × Nat)),
          candidateOf s number = some c → c.slot = k →
          (c.state = .finished ∨ c.state = .left ∨ c.state = .collected) →
          (c.sheetReceived = true → (slotOf s r.slot).receipt = some number) →
          (reason = .noKey ∧ shortage = none ∧ (keyOf s k).state ≠ .ready ∨
            ∃ rows q, reason = .shortSheet ∧ shortage = some (rows - 10, q) ∧ (keyOf s k).state = .ready ∧
              (keyOf s k).questions = some q ∧ (slotOf s r.slot).rowCount = some rows ∧ rows < 10 + q) →
          ∃ t, exec .identification s = .next t ∧
            Happened [.sheetHeld r.slot (some form) reason (some k) (some (number, assigned)) true none shortage]
              [.marking, .store, .roster] s t ∧
            candidateOf t number = some { c with sheetReceived := true } ∧ othersKept number s t ∧
            slotOf t r.slot = { slotOf s r.slot with
              state := .held, holdReason := some reason, receipt := some number
              decoded := if assigned then (slotOf s r.slot).decoded else some number } ∧ slotsKept r.slot s t ∧
            t.store = { (serveReads .marking s).store with slots := t.store.slots } ∧
            t.marking = { s.marking with inFlight := none })) ∧
    (∀ (image : List (List Byte)) (threshold : Nat) (dark : Nat → Nat → Prop),
      (∀ r p, dark r p ↔ r < 10 ∧ threshold ≤ ((image.getD r []).getD p 0).toNat) →
      (∀ d : Nat → Nat, (∀ p, p < 8 → ∀ r, dark r p ↔ r = d p) →
        decodeNumber image threshold =
          if (List.range 8).all (fun p => d p == 0) then Decoded.unreadable .zeroNumber
          else Decoded.number (d 0 * 10000000 + d 1 * 1000000 + d 2 * 100000 + d 3 * 10000 + d 4 * 1000 + d 5 * 100 + d 6 * 10 +
            d 7)) ∧
      ∀ p, p < 8 → (∀ p', p' < p → ∃ d, ∀ r, dark r p' ↔ r = d) →
        ((∀ r, ¬ dark r p) → decodeNumber image threshold = .unreadable (.noRow p)) ∧
        ((∃ r r', r ≠ r' ∧ dark r p ∧ dark r' p) → decodeNumber image threshold = .unreadable (.severalRows p))) ∧
    (∀ (r : InFlight) (s : State), s.powered = true → s.marking.inFlight = some r → r.phase = .identifying →
      ((slotOf s r.slot).form.bind (sessionOfForm s)) = none →
      ∃ t, exec .identification s = .next t ∧ keeps [.marking, .store] s t ∧ retentionFollows s t ∧
        t.marking = { s.marking with inFlight := none } ∧
        t.store = { (serveReads .marking s).store with slots := t.store.slots } ∧
        slotOf t r.slot = { slotOf s r.slot with state := .held, holdReason := some .formUnknown } ∧
        slotsKept r.slot s t ∧
        t.link.notices = (raise (.sheetHeld r.slot (slotOf s r.slot).form .formUnknown none none
          (slotOf s r.slot).receipt.isSome none none) s).link.notices)) ∧
  (
    ∀ (r : InFlight) (number k g : Nat) (c : Candidate) (es : List Response) (s : State), s.powered = true →
      s.marking.inFlight = some r → r.phase = .scoring → r.identity = some number → r.session = some k →
      r.generation = some g → candidateOf s number = some c → es = sheetResponses (keyOf s k) (slotOf s r.slot).image →
      ∃ t m, exec .scoring s = .next t ∧
        m = { marksOf (keyOf s k) es s.timer.clock false with generation := g } ∧
        Happened [.sheetMarked number k r.slot g m.total m.maximum m.percent m.review] [.marking, .store, .roster] s t ∧
        candidateOf t number = some { c with marks := some m, responses := some es } ∧ othersKept number s t ∧
        slotOf t r.slot = { image := (slotOf s r.slot).image, exportMark := (slotOf s r.slot).exportMark } ∧
        slotsKept r.slot s t ∧ t.store.queue = s.store.queue ∧ t.marking = { s.marking with inFlight := none } ∧
        t.store = { (serveReads .marking s).store with slots := t.store.slots })

/-- REMARK begins a run over the session, or ends at once where no candidate has responses; a step takes the session's
next candidate in roster order: it rescores one with Q entries or more under the key as it stands, its marked sets
unchanged, leaves one with fewer short, its record and result as they were, and passes over one without responses; and it
ends the run where no candidate of the session remains after it (R180 to R182). That passing over a candidate is a step of
its own is the model's choice (log entry 41). -/
def Obligations.RemarkRescores : Prop :=
  (∀ (tag slot : Nat) (s : State), canTake (.remark tag slot) s = true → slot < 8 → (sessionOf s slot).state ≠ .free →
    (keyOf s slot).state = .ready → s.marking.remark = none →
    ((∃ c ∈ s.roster, c.slot = slot ∧ c.responses.isSome = true) →
      ∃ t, exec (.remark tag slot) s = .next t ∧ Accepted [.marking] s t ∧
        t.marking = { s.marking with remark := some {
            slot := slot, generation := (keyOf s slot).generation, position := 0, remarked := 0, short := 0
            tag := tag } }) ∧
    ((∀ c ∈ s.roster, c.slot = slot → c.responses = none) →
      ∃ t, exec (.remark tag slot) s = .next t ∧
        Answered (longReply tag 0x84 [Field.num 2 0, Field.num 2 0, Field.num 1 (keyOf s slot).generation]) [] [.marking] s t ∧
        t.marking = s.marking)) ∧
  (∀ (r r' : Remark) (place n : Nat) (c : Candidate) (es : List Response) (s : State), s.powered = true →
    s.marking.remark = some r → remarkNext s r = some (place, c) → c.responses = some es →
    (keyOf s r.slot).questions = some n → n ≤ es.length →
    r' = { r with remarked := r.remarked + 1, position := place + 1 } →
    ∃ t es', exec .remarkStep s = .next t ∧ keeps [.marking, .roster] s t ∧ othersKept c.number s t ∧
      candidateOf t c.number = some { c with
        responses := some es', marks := some (marksOf (keyOf s r.slot) (es'.take n) s.timer.clock true) } ∧
      es'.map (·.marked) = es.map (·.marked) ∧ es'.map (·.faint) = es.map (·.faint) ∧
      (∀ i q, i < n → es[i]? = some q → es'[i]? = some (scoreEntry (keyOf s r.slot) (i + 1) q.marked q.faint)) ∧
      (∀ i, n ≤ i → es'[i]? = es[i]?) ∧
      ((∃ i d, place < i ∧ t.roster[i]? = some d ∧ d.slot = r.slot) →
        t.marking = { s.marking with remark := some r' } ∧ t.link.replies = s.link.replies) ∧
      ((∀ i d, place < i → t.roster[i]? = some d → d.slot ≠ r.slot) →
        t.marking = { s.marking with remark := none } ∧
        t.link.replies = s.link.replies ++
          [longReply r.tag 0x84 [Field.num 2 (r.remarked + 1), Field.num 2 r.short, Field.num 1 r.generation]])) ∧
  (∀ (r r' : Remark) (place : Nat) (c : Candidate) (s : State), s.powered = true →
    s.marking.remark = some r → remarkNext s r = some (place, c) →
    ((∃ es n, c.responses = some es ∧ (keyOf s r.slot).questions = some n ∧ es.length < n ∧
        r' = { r with short := r.short + 1, position := place + 1 }) ∨
      c.responses = none ∧ r' = { r with position := place + 1 }) →
    ∃ t, exec .remarkStep s = .next t ∧
      ((∃ i d, place < i ∧ s.roster[i]? = some d ∧ d.slot = r.slot) →
        Happened [] [.marking] s t ∧ t.marking = { s.marking with remark := some r' }) ∧
      ((∀ i d, place < i → s.roster[i]? = some d → d.slot ≠ r.slot) →
        Concluded (longReply r.tag 0x84 [Field.num 2 r'.remarked, Field.num 2 r'.short, Field.num 1 r'.generation]) []
          [.marking] s t ∧
        t.marking = { s.marking with remark := none })) ∧
  (∀ s : State, s.marking.remark = none → exec .remarkStep s = .next s) ∧
  (∀ (r : Remark) (place : Nat) (c : Candidate) (s : State),
    remarkNext s r = some (place, c) ↔
      r.position ≤ place ∧ s.roster[place]? = some c ∧ c.slot = r.slot ∧
        ∀ i d, r.position ≤ i → i < place → s.roster[i]? = some d → d.slot ≠ r.slot) ∧
  (∀ (r : Remark) (s : State), s.powered = true → s.marking.remark = some r → remarkNext s r = none →
    ∃ t, exec .remarkStep s = .next t ∧
      Concluded (longReply r.tag 0x84 [Field.num 2 r.remarked, Field.num 2 r.short, Field.num 1 r.generation]) [] [.marking] s t ∧
      t.marking = { s.marking with remark := none })

/-! ## Reads -/

/-- GET_SEATS and GET_SEAT_MAP answer the seat records and the map, and change nothing (R6). The candidate reads answer
the record's fields and a page of the list, and change nothing (R26). The reads of the timer, the lines, the boards, the
stations, the store, the collection and the keys answer OK with their block's fields and change nothing but the link (R51,
R80, R103, R119, R131, R152, R163, R178, R179). GET_STATIONS advances the model's free-value index. How the fields stand
in these replies is in part the model's choice: their widths, Tm and Tf in GET_KEY among them (log entry 14), absent records (log entry 15), the one byte
of a seat's flags (log entry 51), a withheld grant and the low time of a high ready line in GET_STATIONS (log entries 54
and 71), the renderings and the absent message of GET_BOARDS (log entries 58 and 59), the four lowest HELD slots of
GET_RESULT (log entry 64), the bundles closed of GET_COLLECTION's sweep record (log entry 57), the attribute "none" of GET_BOARDS
(log entry 81), the place of the match total in LIST_CANDIDATES (log entry 72), an unknown card present or
display ok in GET_DESKS (log entry 73), and that the renderings of GET_BOARDS have no count of their own (log entry 74). -/
def Obligations.ReadsAnswerAndChangeNothing : Prop :=
  (
    (∀ (tag first count : Nat) (s : State), canTake (.getSeats tag first count) s = true → first < 960 → 1 ≤ count →
      count ≤ 64 →
      ∃ t, exec (.getSeats tag first count) s = .next t ∧
        Answered (okReply tag 0x11 (Field.num 1 (min count (960 - first)) ::
          (List.range (min count (960 - first))).flatMap fun i => seatFields (first + i) (seatOf s (first + i))))
          [] [] s t) ∧
    (∀ (tag : Nat) (s : State), canTake (.getSeatMap tag) s = true →
      ∃ t, exec (.getSeatMap tag) s = .next t ∧ Answered (okReply tag 0x12 (seatMapFields s)) [] [] s t)) ∧
  (
    (∀ (tag number : Nat) (c : Candidate) (s : State), canTake (.getCandidate tag number) s = true →
      candidateOf s number = some c →
      ∃ t, exec (.getCandidate tag number) s = .next t ∧
        Answered (okReply tag 0x22 (candidateFields s c)) [] [] s t) ∧
    (∀ (tag first count : Nat) (slot : Option Nat) (s : State), canTake (.listCandidates tag slot first count) s = true →
      (∀ k, slot = some k → k < 8) → 1 ≤ count → count ≤ 64 →
      ∃ t, exec (.listCandidates tag slot first count) s = .next t ∧
        Answered (okReply tag 0x23
          (let all := s.roster.filter fun c => slot.all fun k => c.slot == k
           Field.num 1 (min count (all.length - first)) :: Field.num 2 all.length ::
            ((all.drop first).take count).flatMap (listedFields s))) [] [] s t)) ∧
  (
    (∀ (tag : Nat) (slot : Option Nat) (s : State), canTake (.getSession tag slot) s = true →
      (∀ k, slot = some k → k < 8) →
      ∃ t, exec (.getSession tag slot) s = .next t ∧ Answered (okReply tag 0x33
        (match slot with
          | none => (List.range 8).flatMap fun k => sessionFields s k false
          | some k => sessionFields s k true)) [] [] s t) ∧
    (∀ (tag line : Nat) (s : State), canTake (.getLine tag line) s = true → line < 8 →
      ∃ t, exec (.getLine tag line) s = .next t ∧ Answered (okReply tag 0x41 (lineFields (lineOf s line))) [] [] s t) ∧
    (∀ (tag line first count : Nat) (s : State), canTake (.getDesks tag line first count) s = true → line < 8 →
      1 ≤ first → first ≤ 120 → 1 ≤ count → count ≤ 64 →
      ∃ t, exec (.getDesks tag line first count) s = .next t ∧ Answered (okReply tag 0x42
        (Field.num 1 (min count (121 - first)) ::
          (List.range (min count (121 - first))).flatMap fun i => deskFields s line (first + i))) [] [] s t) ∧
    (∀ (tag : Nat) (s : State), canTake (.getBoards tag) s = true →
      ∃ t, exec (.getBoards tag) s = .next t ∧ Answered (okReply tag 0x51 (boardsFields s)) [] [] s t) ∧
    (∀ (tag : Nat) (s : State), canTake (.getStations tag) s = true →
      ∃ t, exec (.getStations tag) s = .next t ∧ t.fresh = s.fresh + 1 ∧
        Answered (okReply tag 0x63 ((List.range 4).flatMap (stationFields s) ++ [Field.opt 1 s.reader.lastGranted])) [] []
          s { t with fresh := s.fresh }) ∧
    (∀ (tag first count : Nat) (s : State), canTake (.listSlots tag first count) s = true → first < 48 → 1 ≤ count →
      count ≤ 24 →
      ∃ t, exec (.listSlots tag first count) s = .next t ∧ Answered (okReply tag 0x65
        ([Field.num 1 (min count (48 - first))] ++
          (List.range (min count (48 - first))).flatMap (fun i => slotFields s (first + i)) ++
          [Field.num 1 (countSlots s .free), Field.num 1 (countSlots s .filling), Field.num 1 (countSlots s .filled),
           Field.num 1 (countSlots s .marking), Field.num 1 (countSlots s .held)] ++
          [Field.num 1 s.store.queue.length] ++ s.store.queue.map (fun n => Field.num 1 n))) [] [] s t) ∧
    (∀ (tag slot number : Nat) (b : Bundle) (s : State), canTake (.getBundle tag slot number) s = true → slot < 8 →
      1 ≤ number → number ≤ 256 → bundleNumbered s slot number = some b →
      ∃ t, exec (.getBundle tag slot number) s = .next t ∧ Answered (okReply tag 0x76 (bundleFields b)) [] [] s t) ∧
    (∀ (tag slot first : Nat) (s : State), canTake (.getCollection tag slot first) s = true → slot < 8 → 1 ≤ first →
      first ≤ 256 →
      ∃ t, exec (.getCollection tag slot first) s = .next t ∧ Answered (okReply tag 0x77
        (Field.num 1 (sessionOf s slot).state.ctorIdx ::
          (if (sessionOf s slot).state = .free then [] else collectionFields s slot first) ++ hallCollectionFields s))
        [] [] s t) ∧
    (∀ (tag slot first count : Nat) (s : State), canTake (.getKey tag slot first count) s = true → slot < 8 →
      count ≤ 25 →
      ∃ t, exec (.getKey tag slot first count) s = .next t ∧
        Answered (okReply tag 0x83 (keyFields s slot first count)) [] [] s t) ∧
    (∀ (tag number : Nat) (c : Candidate) (s : State), canTake (.getResult tag number) s = true → 1 ≤ number →
      number ≤ 99999999 → candidateOf s number = some c →
      ∃ t, exec (.getResult tag number) s = .next t ∧ Answered (okReply tag 0x85 (resultFields s c)) [] [] s t) ∧
    (∀ (tag number first count : Nat) (c : Candidate) (es : List Response) (s : State),
      canTake (.getResponses tag number first count) s = true → 1 ≤ number → number ≤ 99999999 → 1 ≤ count →
      count ≤ 50 → candidateOf s number = some c → c.responses = some es → 1 ≤ first → first ≤ es.length →
      ∃ t, exec (.getResponses tag number first count) s = .next t ∧
        Answered (okReply tag 0x86 (Field.num 1 (min count (es.length + 1 - first)) ::
          numberedResponses first ((es.drop (first - 1)).take count) ++
          [Field.opt 1 (c.marks.map (·.status.ctorIdx)), Field.opt 1 (c.marks.map (·.generation))])) [] [] s t))

/-! ## Invariants -/

/-- The state after reset is bounded, its reply list too, its roster sound, its seats and candidates agreed and its
sessions sound, its marking queue, its bundles and its results are sound, its lines too, no two adjacent seats name
candidates of one session, and its seat table has its form. -/
def Obligations.InvariantsHoldAtReset : Prop :=
  Bounded State.reset ∧ RepliesBounded State.reset ∧ RosterSound State.reset ∧ SeatsAgree State.reset ∧ SessionsSound State.reset ∧
  QueueSound State.reset ∧ BundlesSound State.reset ∧ ResultsSound State.reset ∧ LinesSound State.reset ∧
  SeparationHolds State.reset ∧ SeatsPlaced State.reset

/-- Every step keeps the bounds of the link and of the Cover Queue (R125, R138, R187, R188, R190, R191, R193, R197). Every
step keeps the reply list at twelve, eleven of them long, counting for each long operation the one that runs or whose
reply waits (R191). A REMARK or LINE_TEST that follows an unsent reply of its kind goes past that count, and the step of
one is left out: that nothing bars it is the model's reading (log entry 50). Every step keeps the marking queue sound: it
holds each FILLED slot exactly once and no other slot, and while main power is present only the sheet in flight is in a
MARKING slot (R128). Every step keeps the figures of the lines in the ranges R77 and R79 give them, and what awaits a
reply at an address 1 to D. -/
def Obligations.EveryStepKeepsTheBounds : Prop :=
  (∀ s t : State, Bounded s → step s = .next t → Bounded t) ∧
  (∀ s t : State, Bounded s → RepliesBounded s → (∀ c, s.pending.head? = some c → leavesReplyPlaces c s) →
    step s = .next t → RepliesBounded t) ∧
  (∀ s t : State, QueueSound s → step s = .next t → QueueSound t) ∧
  ∀ s t : State, LinesSound s → step s = .next t → LinesSound t

/-- Every step keeps the roster sound (R25 to R28, R69). With the roster and the results sound, every step keeps the bundles
sound: each COLLECTED candidate stands in exactly one bundle of its session, and a bundle holds no more than its session's
bundle size, COLLECTED candidates only (R149). That the next bundle number goes on to 257 is log entry 63, the model's
choice. -/
def Obligations.EveryStepKeepsTheRosterSound : Prop :=
  (∀ s t : State, RosterSound s → step s = .next t → RosterSound t) ∧
  ∀ s t : State, RosterSound s → ResultsSound s → BundlesSound s → step s = .next t → BundlesSound t

/-- Every step keeps the sessions sound: while the hall hold is active no session is in READING or WRITING (R59 to R62).
With the roster and the marking queue sound, every step keeps the results sound: a CURRENT result has the generation of its
session's key, which is READY (R157, R176). -/
def Obligations.EveryStepKeepsTheSessionsSound : Prop :=
  (∀ s t : State, SessionsSound s → step s = .next t → SessionsSound t) ∧
  ∀ s t : State, RosterSound s → QueueSound s → ResultsSound s → step s = .next t → ResultsSound t

/-- Every step keeps seats and candidates agreed: a seat names a candidate exactly when that candidate names the seat, in
the states R2 gives them. Every step keeps the separation: no two seats that are adjacent under the mode in force name
candidates of the same session (R10). Every step keeps the seat table's form: its numbers rise, the defined seats lie in
the hall's ranges, no two share a grid position or a desk, and the cursors are grid positions (R1, R4, R11). -/
def Obligations.EveryStepKeepsSeatsAndCandidatesAgreed : Prop :=
  (∀ s t : State, RosterSound s → SeatsAgree s → step s = .next t → SeatsAgree t) ∧
  (∀ s t : State, RosterSound s → SeatsAgree s → SeparationHolds s → step s = .next t → SeparationHolds t) ∧
  ∀ s t : State, RosterSound s → SeatsAgree s → SeatsPlaced s → step s = .next t → SeatsPlaced t
end

