-- ==== Sys2Proof/Laws/State.lean ====
section
/-! SUPPORT. One lemma per field per update of the state: what each write of a record leaves alone, and that a record
written reads back. All of them hold by computation or by the laws of the tables, so that no proof unfolds an update. -/

namespace Sys2Proof.Machine

variable (s : State)

/-! ## putSeat -/

@[simp] theorem putSeat_pending (n : Nat) (x : Seat) : (putSeat n x s).pending = s.pending := rfl
@[simp] theorem putSeat_powered (n : Nat) (x : Seat) : (putSeat n x s).powered = s.powered := rfl
@[simp] theorem putSeat_fresh (n : Nat) (x : Seat) : (putSeat n x s).fresh = s.fresh := rfl
@[simp] theorem putSeat_link (n : Nat) (x : Seat) : (putSeat n x s).link = s.link := rfl
@[simp] theorem putSeat_roster (n : Nat) (x : Seat) : (putSeat n x s).roster = s.roster := rfl
@[simp] theorem putSeat_timer (n : Nat) (x : Seat) : (putSeat n x s).timer = s.timer := rfl
@[simp] theorem putSeat_desk (n : Nat) (x : Seat) : (putSeat n x s).desk = s.desk := rfl
@[simp] theorem putSeat_boards (n : Nat) (x : Seat) : (putSeat n x s).boards = s.boards := rfl
@[simp] theorem putSeat_reader (n : Nat) (x : Seat) : (putSeat n x s).reader = s.reader := rfl
@[simp] theorem putSeat_store (n : Nat) (x : Seat) : (putSeat n x s).store = s.store := rfl
@[simp] theorem putSeat_coll (n : Nat) (x : Seat) : (putSeat n x s).coll = s.coll := rfl
@[simp] theorem putSeat_marking (n : Nat) (x : Seat) : (putSeat n x s).marking = s.marking := rfl

/-! ## putCursor -/

@[simp] theorem putCursor_pending (k : Nat) (p : Nat × Nat) : (putCursor k p s).pending = s.pending := rfl
@[simp] theorem putCursor_powered (k : Nat) (p : Nat × Nat) : (putCursor k p s).powered = s.powered := rfl
@[simp] theorem putCursor_fresh (k : Nat) (p : Nat × Nat) : (putCursor k p s).fresh = s.fresh := rfl
@[simp] theorem putCursor_link (k : Nat) (p : Nat × Nat) : (putCursor k p s).link = s.link := rfl
@[simp] theorem putCursor_roster (k : Nat) (p : Nat × Nat) : (putCursor k p s).roster = s.roster := rfl
@[simp] theorem putCursor_timer (k : Nat) (p : Nat × Nat) : (putCursor k p s).timer = s.timer := rfl
@[simp] theorem putCursor_desk (k : Nat) (p : Nat × Nat) : (putCursor k p s).desk = s.desk := rfl
@[simp] theorem putCursor_boards (k : Nat) (p : Nat × Nat) : (putCursor k p s).boards = s.boards := rfl
@[simp] theorem putCursor_reader (k : Nat) (p : Nat × Nat) : (putCursor k p s).reader = s.reader := rfl
@[simp] theorem putCursor_store (k : Nat) (p : Nat × Nat) : (putCursor k p s).store = s.store := rfl
@[simp] theorem putCursor_coll (k : Nat) (p : Nat × Nat) : (putCursor k p s).coll = s.coll := rfl
@[simp] theorem putCursor_marking (k : Nat) (p : Nat × Nat) : (putCursor k p s).marking = s.marking := rfl

/-! ## putAlloc -/

@[simp] theorem putAlloc_pending (r : Option AllocRun) : (putAlloc r s).pending = s.pending := rfl
@[simp] theorem putAlloc_powered (r : Option AllocRun) : (putAlloc r s).powered = s.powered := rfl
@[simp] theorem putAlloc_fresh (r : Option AllocRun) : (putAlloc r s).fresh = s.fresh := rfl
@[simp] theorem putAlloc_link (r : Option AllocRun) : (putAlloc r s).link = s.link := rfl
@[simp] theorem putAlloc_roster (r : Option AllocRun) : (putAlloc r s).roster = s.roster := rfl
@[simp] theorem putAlloc_timer (r : Option AllocRun) : (putAlloc r s).timer = s.timer := rfl
@[simp] theorem putAlloc_desk (r : Option AllocRun) : (putAlloc r s).desk = s.desk := rfl
@[simp] theorem putAlloc_boards (r : Option AllocRun) : (putAlloc r s).boards = s.boards := rfl
@[simp] theorem putAlloc_reader (r : Option AllocRun) : (putAlloc r s).reader = s.reader := rfl
@[simp] theorem putAlloc_store (r : Option AllocRun) : (putAlloc r s).store = s.store := rfl
@[simp] theorem putAlloc_coll (r : Option AllocRun) : (putAlloc r s).coll = s.coll := rfl
@[simp] theorem putAlloc_marking (r : Option AllocRun) : (putAlloc r s).marking = s.marking := rfl

/-! ## putSession -/

@[simp] theorem putSession_pending (k : Nat) (x : Session) : (putSession k x s).pending = s.pending := rfl
@[simp] theorem putSession_powered (k : Nat) (x : Session) : (putSession k x s).powered = s.powered := rfl
@[simp] theorem putSession_fresh (k : Nat) (x : Session) : (putSession k x s).fresh = s.fresh := rfl
@[simp] theorem putSession_link (k : Nat) (x : Session) : (putSession k x s).link = s.link := rfl
@[simp] theorem putSession_seatMap (k : Nat) (x : Session) : (putSession k x s).seatMap = s.seatMap := rfl
@[simp] theorem putSession_roster (k : Nat) (x : Session) : (putSession k x s).roster = s.roster := rfl
@[simp] theorem putSession_desk (k : Nat) (x : Session) : (putSession k x s).desk = s.desk := rfl
@[simp] theorem putSession_boards (k : Nat) (x : Session) : (putSession k x s).boards = s.boards := rfl
@[simp] theorem putSession_reader (k : Nat) (x : Session) : (putSession k x s).reader = s.reader := rfl
@[simp] theorem putSession_store (k : Nat) (x : Session) : (putSession k x s).store = s.store := rfl
@[simp] theorem putSession_coll (k : Nat) (x : Session) : (putSession k x s).coll = s.coll := rfl
@[simp] theorem putSession_marking (k : Nat) (x : Session) : (putSession k x s).marking = s.marking := rfl

/-! ## putTimer -/

@[simp] theorem putTimer_pending (x : Timer) : (putTimer x s).pending = s.pending := rfl
@[simp] theorem putTimer_powered (x : Timer) : (putTimer x s).powered = s.powered := rfl
@[simp] theorem putTimer_fresh (x : Timer) : (putTimer x s).fresh = s.fresh := rfl
@[simp] theorem putTimer_link (x : Timer) : (putTimer x s).link = s.link := rfl
@[simp] theorem putTimer_seatMap (x : Timer) : (putTimer x s).seatMap = s.seatMap := rfl
@[simp] theorem putTimer_roster (x : Timer) : (putTimer x s).roster = s.roster := rfl
@[simp] theorem putTimer_desk (x : Timer) : (putTimer x s).desk = s.desk := rfl
@[simp] theorem putTimer_boards (x : Timer) : (putTimer x s).boards = s.boards := rfl
@[simp] theorem putTimer_reader (x : Timer) : (putTimer x s).reader = s.reader := rfl
@[simp] theorem putTimer_store (x : Timer) : (putTimer x s).store = s.store := rfl
@[simp] theorem putTimer_coll (x : Timer) : (putTimer x s).coll = s.coll := rfl
@[simp] theorem putTimer_marking (x : Timer) : (putTimer x s).marking = s.marking := rfl

/-! ## putCandidate -/

@[simp] theorem putCandidate_pending (c : Candidate) : (putCandidate c s).pending = s.pending := rfl
@[simp] theorem putCandidate_powered (c : Candidate) : (putCandidate c s).powered = s.powered := rfl
@[simp] theorem putCandidate_fresh (c : Candidate) : (putCandidate c s).fresh = s.fresh := rfl
@[simp] theorem putCandidate_link (c : Candidate) : (putCandidate c s).link = s.link := rfl
@[simp] theorem putCandidate_seatMap (c : Candidate) : (putCandidate c s).seatMap = s.seatMap := rfl
@[simp] theorem putCandidate_timer (c : Candidate) : (putCandidate c s).timer = s.timer := rfl
@[simp] theorem putCandidate_desk (c : Candidate) : (putCandidate c s).desk = s.desk := rfl
@[simp] theorem putCandidate_boards (c : Candidate) : (putCandidate c s).boards = s.boards := rfl
@[simp] theorem putCandidate_reader (c : Candidate) : (putCandidate c s).reader = s.reader := rfl
@[simp] theorem putCandidate_store (c : Candidate) : (putCandidate c s).store = s.store := rfl
@[simp] theorem putCandidate_coll (c : Candidate) : (putCandidate c s).coll = s.coll := rfl
@[simp] theorem putCandidate_marking (c : Candidate) : (putCandidate c s).marking = s.marking := rfl

/-! ## putLine -/

@[simp] theorem putLine_pending (l : Nat) (x : Line) : (putLine l x s).pending = s.pending := rfl
@[simp] theorem putLine_powered (l : Nat) (x : Line) : (putLine l x s).powered = s.powered := rfl
@[simp] theorem putLine_fresh (l : Nat) (x : Line) : (putLine l x s).fresh = s.fresh := rfl
@[simp] theorem putLine_link (l : Nat) (x : Line) : (putLine l x s).link = s.link := rfl
@[simp] theorem putLine_seatMap (l : Nat) (x : Line) : (putLine l x s).seatMap = s.seatMap := rfl
@[simp] theorem putLine_roster (l : Nat) (x : Line) : (putLine l x s).roster = s.roster := rfl
@[simp] theorem putLine_timer (l : Nat) (x : Line) : (putLine l x s).timer = s.timer := rfl
@[simp] theorem putLine_boards (l : Nat) (x : Line) : (putLine l x s).boards = s.boards := rfl
@[simp] theorem putLine_reader (l : Nat) (x : Line) : (putLine l x s).reader = s.reader := rfl
@[simp] theorem putLine_store (l : Nat) (x : Line) : (putLine l x s).store = s.store := rfl
@[simp] theorem putLine_coll (l : Nat) (x : Line) : (putLine l x s).coll = s.coll := rfl
@[simp] theorem putLine_marking (l : Nat) (x : Line) : (putLine l x s).marking = s.marking := rfl

/-! ## putDesk -/

@[simp] theorem putDesk_pending (l a : Nat) (x : Desk) : (putDesk l a x s).pending = s.pending := rfl
@[simp] theorem putDesk_powered (l a : Nat) (x : Desk) : (putDesk l a x s).powered = s.powered := rfl
@[simp] theorem putDesk_fresh (l a : Nat) (x : Desk) : (putDesk l a x s).fresh = s.fresh := rfl
@[simp] theorem putDesk_link (l a : Nat) (x : Desk) : (putDesk l a x s).link = s.link := rfl
@[simp] theorem putDesk_seatMap (l a : Nat) (x : Desk) : (putDesk l a x s).seatMap = s.seatMap := rfl
@[simp] theorem putDesk_roster (l a : Nat) (x : Desk) : (putDesk l a x s).roster = s.roster := rfl
@[simp] theorem putDesk_timer (l a : Nat) (x : Desk) : (putDesk l a x s).timer = s.timer := rfl
@[simp] theorem putDesk_boards (l a : Nat) (x : Desk) : (putDesk l a x s).boards = s.boards := rfl
@[simp] theorem putDesk_reader (l a : Nat) (x : Desk) : (putDesk l a x s).reader = s.reader := rfl
@[simp] theorem putDesk_store (l a : Nat) (x : Desk) : (putDesk l a x s).store = s.store := rfl
@[simp] theorem putDesk_coll (l a : Nat) (x : Desk) : (putDesk l a x s).coll = s.coll := rfl
@[simp] theorem putDesk_marking (l a : Nat) (x : Desk) : (putDesk l a x s).marking = s.marking := rfl

/-! ## putBoards -/

@[simp] theorem putBoards_pending (b : Boards) : (putBoards b s).pending = s.pending := rfl
@[simp] theorem putBoards_powered (b : Boards) : (putBoards b s).powered = s.powered := rfl
@[simp] theorem putBoards_fresh (b : Boards) : (putBoards b s).fresh = s.fresh := rfl
@[simp] theorem putBoards_link (b : Boards) : (putBoards b s).link = s.link := rfl
@[simp] theorem putBoards_seatMap (b : Boards) : (putBoards b s).seatMap = s.seatMap := rfl
@[simp] theorem putBoards_roster (b : Boards) : (putBoards b s).roster = s.roster := rfl
@[simp] theorem putBoards_timer (b : Boards) : (putBoards b s).timer = s.timer := rfl
@[simp] theorem putBoards_desk (b : Boards) : (putBoards b s).desk = s.desk := rfl
@[simp] theorem putBoards_reader (b : Boards) : (putBoards b s).reader = s.reader := rfl
@[simp] theorem putBoards_store (b : Boards) : (putBoards b s).store = s.store := rfl
@[simp] theorem putBoards_coll (b : Boards) : (putBoards b s).coll = s.coll := rfl
@[simp] theorem putBoards_marking (b : Boards) : (putBoards b s).marking = s.marking := rfl

/-! ## putStation -/

@[simp] theorem putStation_pending (n : Nat) (x : Station) : (putStation n x s).pending = s.pending := rfl
@[simp] theorem putStation_powered (n : Nat) (x : Station) : (putStation n x s).powered = s.powered := rfl
@[simp] theorem putStation_fresh (n : Nat) (x : Station) : (putStation n x s).fresh = s.fresh := rfl
@[simp] theorem putStation_link (n : Nat) (x : Station) : (putStation n x s).link = s.link := rfl
@[simp] theorem putStation_seatMap (n : Nat) (x : Station) : (putStation n x s).seatMap = s.seatMap := rfl
@[simp] theorem putStation_roster (n : Nat) (x : Station) : (putStation n x s).roster = s.roster := rfl
@[simp] theorem putStation_timer (n : Nat) (x : Station) : (putStation n x s).timer = s.timer := rfl
@[simp] theorem putStation_desk (n : Nat) (x : Station) : (putStation n x s).desk = s.desk := rfl
@[simp] theorem putStation_boards (n : Nat) (x : Station) : (putStation n x s).boards = s.boards := rfl
@[simp] theorem putStation_store (n : Nat) (x : Station) : (putStation n x s).store = s.store := rfl
@[simp] theorem putStation_coll (n : Nat) (x : Station) : (putStation n x s).coll = s.coll := rfl
@[simp] theorem putStation_marking (n : Nat) (x : Station) : (putStation n x s).marking = s.marking := rfl

/-! ## putTransfer -/

@[simp] theorem putTransfer_pending (t : Option Transfer) : (putTransfer t s).pending = s.pending := rfl
@[simp] theorem putTransfer_powered (t : Option Transfer) : (putTransfer t s).powered = s.powered := rfl
@[simp] theorem putTransfer_fresh (t : Option Transfer) : (putTransfer t s).fresh = s.fresh := rfl
@[simp] theorem putTransfer_link (t : Option Transfer) : (putTransfer t s).link = s.link := rfl
@[simp] theorem putTransfer_seatMap (t : Option Transfer) : (putTransfer t s).seatMap = s.seatMap := rfl
@[simp] theorem putTransfer_roster (t : Option Transfer) : (putTransfer t s).roster = s.roster := rfl
@[simp] theorem putTransfer_timer (t : Option Transfer) : (putTransfer t s).timer = s.timer := rfl
@[simp] theorem putTransfer_desk (t : Option Transfer) : (putTransfer t s).desk = s.desk := rfl
@[simp] theorem putTransfer_boards (t : Option Transfer) : (putTransfer t s).boards = s.boards := rfl
@[simp] theorem putTransfer_store (t : Option Transfer) : (putTransfer t s).store = s.store := rfl
@[simp] theorem putTransfer_coll (t : Option Transfer) : (putTransfer t s).coll = s.coll := rfl
@[simp] theorem putTransfer_marking (t : Option Transfer) : (putTransfer t s).marking = s.marking := rfl

/-! ## putReady -/

@[simp] theorem putReady_pending (n : Nat) (low : Bool) : (putReady n low s).pending = s.pending := rfl
@[simp] theorem putReady_powered (n : Nat) (low : Bool) : (putReady n low s).powered = s.powered := rfl
@[simp] theorem putReady_fresh (n : Nat) (low : Bool) : (putReady n low s).fresh = s.fresh := rfl
@[simp] theorem putReady_link (n : Nat) (low : Bool) : (putReady n low s).link = s.link := rfl
@[simp] theorem putReady_seatMap (n : Nat) (low : Bool) : (putReady n low s).seatMap = s.seatMap := rfl
@[simp] theorem putReady_roster (n : Nat) (low : Bool) : (putReady n low s).roster = s.roster := rfl
@[simp] theorem putReady_timer (n : Nat) (low : Bool) : (putReady n low s).timer = s.timer := rfl
@[simp] theorem putReady_desk (n : Nat) (low : Bool) : (putReady n low s).desk = s.desk := rfl
@[simp] theorem putReady_boards (n : Nat) (low : Bool) : (putReady n low s).boards = s.boards := rfl
@[simp] theorem putReady_store (n : Nat) (low : Bool) : (putReady n low s).store = s.store := rfl
@[simp] theorem putReady_coll (n : Nat) (low : Bool) : (putReady n low s).coll = s.coll := rfl
@[simp] theorem putReady_marking (n : Nat) (low : Bool) : (putReady n low s).marking = s.marking := rfl

/-! ## putSlot -/

@[simp] theorem putSlot_pending (n : Nat) (x : Slot) : (putSlot n x s).pending = s.pending := rfl
@[simp] theorem putSlot_powered (n : Nat) (x : Slot) : (putSlot n x s).powered = s.powered := rfl
@[simp] theorem putSlot_fresh (n : Nat) (x : Slot) : (putSlot n x s).fresh = s.fresh := rfl
@[simp] theorem putSlot_link (n : Nat) (x : Slot) : (putSlot n x s).link = s.link := rfl
@[simp] theorem putSlot_seatMap (n : Nat) (x : Slot) : (putSlot n x s).seatMap = s.seatMap := rfl
@[simp] theorem putSlot_roster (n : Nat) (x : Slot) : (putSlot n x s).roster = s.roster := rfl
@[simp] theorem putSlot_timer (n : Nat) (x : Slot) : (putSlot n x s).timer = s.timer := rfl
@[simp] theorem putSlot_desk (n : Nat) (x : Slot) : (putSlot n x s).desk = s.desk := rfl
@[simp] theorem putSlot_boards (n : Nat) (x : Slot) : (putSlot n x s).boards = s.boards := rfl
@[simp] theorem putSlot_reader (n : Nat) (x : Slot) : (putSlot n x s).reader = s.reader := rfl
@[simp] theorem putSlot_coll (n : Nat) (x : Slot) : (putSlot n x s).coll = s.coll := rfl
@[simp] theorem putSlot_marking (n : Nat) (x : Slot) : (putSlot n x s).marking = s.marking := rfl

/-! ## putQueue -/

@[simp] theorem putQueue_pending (q : List Nat) : (putQueue q s).pending = s.pending := rfl
@[simp] theorem putQueue_powered (q : List Nat) : (putQueue q s).powered = s.powered := rfl
@[simp] theorem putQueue_fresh (q : List Nat) : (putQueue q s).fresh = s.fresh := rfl
@[simp] theorem putQueue_link (q : List Nat) : (putQueue q s).link = s.link := rfl
@[simp] theorem putQueue_seatMap (q : List Nat) : (putQueue q s).seatMap = s.seatMap := rfl
@[simp] theorem putQueue_roster (q : List Nat) : (putQueue q s).roster = s.roster := rfl
@[simp] theorem putQueue_timer (q : List Nat) : (putQueue q s).timer = s.timer := rfl
@[simp] theorem putQueue_desk (q : List Nat) : (putQueue q s).desk = s.desk := rfl
@[simp] theorem putQueue_boards (q : List Nat) : (putQueue q s).boards = s.boards := rfl
@[simp] theorem putQueue_reader (q : List Nat) : (putQueue q s).reader = s.reader := rfl
@[simp] theorem putQueue_coll (q : List Nat) : (putQueue q s).coll = s.coll := rfl
@[simp] theorem putQueue_marking (q : List Nat) : (putQueue q s).marking = s.marking := rfl

/-! ## putReadJob -/

@[simp] theorem putReadJob_pending (j : Option ReadJob) : (putReadJob j s).pending = s.pending := rfl
@[simp] theorem putReadJob_powered (j : Option ReadJob) : (putReadJob j s).powered = s.powered := rfl
@[simp] theorem putReadJob_fresh (j : Option ReadJob) : (putReadJob j s).fresh = s.fresh := rfl
@[simp] theorem putReadJob_link (j : Option ReadJob) : (putReadJob j s).link = s.link := rfl
@[simp] theorem putReadJob_seatMap (j : Option ReadJob) : (putReadJob j s).seatMap = s.seatMap := rfl
@[simp] theorem putReadJob_roster (j : Option ReadJob) : (putReadJob j s).roster = s.roster := rfl
@[simp] theorem putReadJob_timer (j : Option ReadJob) : (putReadJob j s).timer = s.timer := rfl
@[simp] theorem putReadJob_desk (j : Option ReadJob) : (putReadJob j s).desk = s.desk := rfl
@[simp] theorem putReadJob_boards (j : Option ReadJob) : (putReadJob j s).boards = s.boards := rfl
@[simp] theorem putReadJob_reader (j : Option ReadJob) : (putReadJob j s).reader = s.reader := rfl
@[simp] theorem putReadJob_coll (j : Option ReadJob) : (putReadJob j s).coll = s.coll := rfl
@[simp] theorem putReadJob_marking (j : Option ReadJob) : (putReadJob j s).marking = s.marking := rfl

/-! ## putBundle -/

@[simp] theorem putBundle_pending (h : Nat) (b : Option Bundle) : (putBundle h b s).pending = s.pending := rfl
@[simp] theorem putBundle_powered (h : Nat) (b : Option Bundle) : (putBundle h b s).powered = s.powered := rfl
@[simp] theorem putBundle_fresh (h : Nat) (b : Option Bundle) : (putBundle h b s).fresh = s.fresh := rfl
@[simp] theorem putBundle_link (h : Nat) (b : Option Bundle) : (putBundle h b s).link = s.link := rfl
@[simp] theorem putBundle_seatMap (h : Nat) (b : Option Bundle) : (putBundle h b s).seatMap = s.seatMap := rfl
@[simp] theorem putBundle_roster (h : Nat) (b : Option Bundle) : (putBundle h b s).roster = s.roster := rfl
@[simp] theorem putBundle_timer (h : Nat) (b : Option Bundle) : (putBundle h b s).timer = s.timer := rfl
@[simp] theorem putBundle_desk (h : Nat) (b : Option Bundle) : (putBundle h b s).desk = s.desk := rfl
@[simp] theorem putBundle_boards (h : Nat) (b : Option Bundle) : (putBundle h b s).boards = s.boards := rfl
@[simp] theorem putBundle_reader (h : Nat) (b : Option Bundle) : (putBundle h b s).reader = s.reader := rfl
@[simp] theorem putBundle_store (h : Nat) (b : Option Bundle) : (putBundle h b s).store = s.store := rfl
@[simp] theorem putBundle_marking (h : Nat) (b : Option Bundle) : (putBundle h b s).marking = s.marking := rfl

/-! ## putOpenBundle -/

@[simp] theorem putOpenBundle_pending (k : Nat) (h : Option Nat) : (putOpenBundle k h s).pending = s.pending := rfl
@[simp] theorem putOpenBundle_powered (k : Nat) (h : Option Nat) : (putOpenBundle k h s).powered = s.powered := rfl
@[simp] theorem putOpenBundle_fresh (k : Nat) (h : Option Nat) : (putOpenBundle k h s).fresh = s.fresh := rfl
@[simp] theorem putOpenBundle_link (k : Nat) (h : Option Nat) : (putOpenBundle k h s).link = s.link := rfl
@[simp] theorem putOpenBundle_seatMap (k : Nat) (h : Option Nat) : (putOpenBundle k h s).seatMap = s.seatMap := rfl
@[simp] theorem putOpenBundle_roster (k : Nat) (h : Option Nat) : (putOpenBundle k h s).roster = s.roster := rfl
@[simp] theorem putOpenBundle_timer (k : Nat) (h : Option Nat) : (putOpenBundle k h s).timer = s.timer := rfl
@[simp] theorem putOpenBundle_desk (k : Nat) (h : Option Nat) : (putOpenBundle k h s).desk = s.desk := rfl
@[simp] theorem putOpenBundle_boards (k : Nat) (h : Option Nat) : (putOpenBundle k h s).boards = s.boards := rfl
@[simp] theorem putOpenBundle_reader (k : Nat) (h : Option Nat) : (putOpenBundle k h s).reader = s.reader := rfl
@[simp] theorem putOpenBundle_store (k : Nat) (h : Option Nat) : (putOpenBundle k h s).store = s.store := rfl
@[simp] theorem putOpenBundle_marking (k : Nat) (h : Option Nat) : (putOpenBundle k h s).marking = s.marking := rfl

/-! ## putNextBundle -/

@[simp] theorem putNextBundle_pending (k n : Nat) : (putNextBundle k n s).pending = s.pending := rfl
@[simp] theorem putNextBundle_powered (k n : Nat) : (putNextBundle k n s).powered = s.powered := rfl
@[simp] theorem putNextBundle_fresh (k n : Nat) : (putNextBundle k n s).fresh = s.fresh := rfl
@[simp] theorem putNextBundle_link (k n : Nat) : (putNextBundle k n s).link = s.link := rfl
@[simp] theorem putNextBundle_seatMap (k n : Nat) : (putNextBundle k n s).seatMap = s.seatMap := rfl
@[simp] theorem putNextBundle_roster (k n : Nat) : (putNextBundle k n s).roster = s.roster := rfl
@[simp] theorem putNextBundle_timer (k n : Nat) : (putNextBundle k n s).timer = s.timer := rfl
@[simp] theorem putNextBundle_desk (k n : Nat) : (putNextBundle k n s).desk = s.desk := rfl
@[simp] theorem putNextBundle_boards (k n : Nat) : (putNextBundle k n s).boards = s.boards := rfl
@[simp] theorem putNextBundle_reader (k n : Nat) : (putNextBundle k n s).reader = s.reader := rfl
@[simp] theorem putNextBundle_store (k n : Nat) : (putNextBundle k n s).store = s.store := rfl
@[simp] theorem putNextBundle_marking (k n : Nat) : (putNextBundle k n s).marking = s.marking := rfl

/-! ## putCovers -/

@[simp] theorem putCovers_pending (q : List CoverEntry) : (putCovers q s).pending = s.pending := rfl
@[simp] theorem putCovers_powered (q : List CoverEntry) : (putCovers q s).powered = s.powered := rfl
@[simp] theorem putCovers_fresh (q : List CoverEntry) : (putCovers q s).fresh = s.fresh := rfl
@[simp] theorem putCovers_link (q : List CoverEntry) : (putCovers q s).link = s.link := rfl
@[simp] theorem putCovers_seatMap (q : List CoverEntry) : (putCovers q s).seatMap = s.seatMap := rfl
@[simp] theorem putCovers_roster (q : List CoverEntry) : (putCovers q s).roster = s.roster := rfl
@[simp] theorem putCovers_timer (q : List CoverEntry) : (putCovers q s).timer = s.timer := rfl
@[simp] theorem putCovers_desk (q : List CoverEntry) : (putCovers q s).desk = s.desk := rfl
@[simp] theorem putCovers_boards (q : List CoverEntry) : (putCovers q s).boards = s.boards := rfl
@[simp] theorem putCovers_reader (q : List CoverEntry) : (putCovers q s).reader = s.reader := rfl
@[simp] theorem putCovers_store (q : List CoverEntry) : (putCovers q s).store = s.store := rfl
@[simp] theorem putCovers_marking (q : List CoverEntry) : (putCovers q s).marking = s.marking := rfl

/-! ## putSweep -/

@[simp] theorem putSweep_pending (r : Option Sweep) : (putSweep r s).pending = s.pending := rfl
@[simp] theorem putSweep_powered (r : Option Sweep) : (putSweep r s).powered = s.powered := rfl
@[simp] theorem putSweep_fresh (r : Option Sweep) : (putSweep r s).fresh = s.fresh := rfl
@[simp] theorem putSweep_link (r : Option Sweep) : (putSweep r s).link = s.link := rfl
@[simp] theorem putSweep_seatMap (r : Option Sweep) : (putSweep r s).seatMap = s.seatMap := rfl
@[simp] theorem putSweep_roster (r : Option Sweep) : (putSweep r s).roster = s.roster := rfl
@[simp] theorem putSweep_timer (r : Option Sweep) : (putSweep r s).timer = s.timer := rfl
@[simp] theorem putSweep_desk (r : Option Sweep) : (putSweep r s).desk = s.desk := rfl
@[simp] theorem putSweep_boards (r : Option Sweep) : (putSweep r s).boards = s.boards := rfl
@[simp] theorem putSweep_reader (r : Option Sweep) : (putSweep r s).reader = s.reader := rfl
@[simp] theorem putSweep_store (r : Option Sweep) : (putSweep r s).store = s.store := rfl
@[simp] theorem putSweep_marking (r : Option Sweep) : (putSweep r s).marking = s.marking := rfl

/-! ## putKey -/

@[simp] theorem putKey_pending (k : Nat) (x : Key) : (putKey k x s).pending = s.pending := rfl
@[simp] theorem putKey_powered (k : Nat) (x : Key) : (putKey k x s).powered = s.powered := rfl
@[simp] theorem putKey_fresh (k : Nat) (x : Key) : (putKey k x s).fresh = s.fresh := rfl
@[simp] theorem putKey_link (k : Nat) (x : Key) : (putKey k x s).link = s.link := rfl
@[simp] theorem putKey_seatMap (k : Nat) (x : Key) : (putKey k x s).seatMap = s.seatMap := rfl
@[simp] theorem putKey_roster (k : Nat) (x : Key) : (putKey k x s).roster = s.roster := rfl
@[simp] theorem putKey_timer (k : Nat) (x : Key) : (putKey k x s).timer = s.timer := rfl
@[simp] theorem putKey_desk (k : Nat) (x : Key) : (putKey k x s).desk = s.desk := rfl
@[simp] theorem putKey_boards (k : Nat) (x : Key) : (putKey k x s).boards = s.boards := rfl
@[simp] theorem putKey_reader (k : Nat) (x : Key) : (putKey k x s).reader = s.reader := rfl
@[simp] theorem putKey_store (k : Nat) (x : Key) : (putKey k x s).store = s.store := rfl
@[simp] theorem putKey_coll (k : Nat) (x : Key) : (putKey k x s).coll = s.coll := rfl

/-! ## putInFlight -/

@[simp] theorem putInFlight_pending (r : Option InFlight) : (putInFlight r s).pending = s.pending := rfl
@[simp] theorem putInFlight_powered (r : Option InFlight) : (putInFlight r s).powered = s.powered := rfl
@[simp] theorem putInFlight_fresh (r : Option InFlight) : (putInFlight r s).fresh = s.fresh := rfl
@[simp] theorem putInFlight_link (r : Option InFlight) : (putInFlight r s).link = s.link := rfl
@[simp] theorem putInFlight_seatMap (r : Option InFlight) : (putInFlight r s).seatMap = s.seatMap := rfl
@[simp] theorem putInFlight_roster (r : Option InFlight) : (putInFlight r s).roster = s.roster := rfl
@[simp] theorem putInFlight_timer (r : Option InFlight) : (putInFlight r s).timer = s.timer := rfl
@[simp] theorem putInFlight_desk (r : Option InFlight) : (putInFlight r s).desk = s.desk := rfl
@[simp] theorem putInFlight_boards (r : Option InFlight) : (putInFlight r s).boards = s.boards := rfl
@[simp] theorem putInFlight_reader (r : Option InFlight) : (putInFlight r s).reader = s.reader := rfl
@[simp] theorem putInFlight_store (r : Option InFlight) : (putInFlight r s).store = s.store := rfl
@[simp] theorem putInFlight_coll (r : Option InFlight) : (putInFlight r s).coll = s.coll := rfl

/-! ## putRemark -/

@[simp] theorem putRemark_pending (r : Option Remark) : (putRemark r s).pending = s.pending := rfl
@[simp] theorem putRemark_powered (r : Option Remark) : (putRemark r s).powered = s.powered := rfl
@[simp] theorem putRemark_fresh (r : Option Remark) : (putRemark r s).fresh = s.fresh := rfl
@[simp] theorem putRemark_link (r : Option Remark) : (putRemark r s).link = s.link := rfl
@[simp] theorem putRemark_seatMap (r : Option Remark) : (putRemark r s).seatMap = s.seatMap := rfl
@[simp] theorem putRemark_roster (r : Option Remark) : (putRemark r s).roster = s.roster := rfl
@[simp] theorem putRemark_timer (r : Option Remark) : (putRemark r s).timer = s.timer := rfl
@[simp] theorem putRemark_desk (r : Option Remark) : (putRemark r s).desk = s.desk := rfl
@[simp] theorem putRemark_boards (r : Option Remark) : (putRemark r s).boards = s.boards := rfl
@[simp] theorem putRemark_reader (r : Option Remark) : (putRemark r s).reader = s.reader := rfl
@[simp] theorem putRemark_store (r : Option Remark) : (putRemark r s).store = s.store := rfl
@[simp] theorem putRemark_coll (r : Option Remark) : (putRemark r s).coll = s.coll := rfl

/-! ## putLink -/

@[simp] theorem putLink_pending (l : Link) : (putLink l s).pending = s.pending := rfl
@[simp] theorem putLink_powered (l : Link) : (putLink l s).powered = s.powered := rfl
@[simp] theorem putLink_fresh (l : Link) : (putLink l s).fresh = s.fresh := rfl
@[simp] theorem putLink_seatMap (l : Link) : (putLink l s).seatMap = s.seatMap := rfl
@[simp] theorem putLink_roster (l : Link) : (putLink l s).roster = s.roster := rfl
@[simp] theorem putLink_timer (l : Link) : (putLink l s).timer = s.timer := rfl
@[simp] theorem putLink_desk (l : Link) : (putLink l s).desk = s.desk := rfl
@[simp] theorem putLink_boards (l : Link) : (putLink l s).boards = s.boards := rfl
@[simp] theorem putLink_reader (l : Link) : (putLink l s).reader = s.reader := rfl
@[simp] theorem putLink_store (l : Link) : (putLink l s).store = s.store := rfl
@[simp] theorem putLink_coll (l : Link) : (putLink l s).coll = s.coll := rfl
@[simp] theorem putLink_marking (l : Link) : (putLink l s).marking = s.marking := rfl

/-! ## popFrame and the whole-field writes -/

@[simp] theorem popFrame_pending : (popFrame s).pending = s.pending := rfl
@[simp] theorem popFrame_powered : (popFrame s).powered = s.powered := rfl
@[simp] theorem popFrame_fresh : (popFrame s).fresh = s.fresh := rfl
@[simp] theorem popFrame_seatMap : (popFrame s).seatMap = s.seatMap := rfl
@[simp] theorem popFrame_roster : (popFrame s).roster = s.roster := rfl
@[simp] theorem popFrame_timer : (popFrame s).timer = s.timer := rfl
@[simp] theorem popFrame_desk : (popFrame s).desk = s.desk := rfl
@[simp] theorem popFrame_boards : (popFrame s).boards = s.boards := rfl
@[simp] theorem popFrame_reader : (popFrame s).reader = s.reader := rfl
@[simp] theorem popFrame_store : (popFrame s).store = s.store := rfl
@[simp] theorem popFrame_coll : (popFrame s).coll = s.coll := rfl
@[simp] theorem popFrame_marking : (popFrame s).marking = s.marking := rfl
@[simp] theorem putTimer_timer (x : Timer) : (putTimer x s).timer = x := rfl
@[simp] theorem putLink_link (l : Link) : (putLink l s).link = l := rfl
@[simp] theorem putBoards_boards (b : Boards) : (putBoards b s).boards = b := rfl
@[simp] theorem putSweep_sweep (r : Option Sweep) : (putSweep r s).coll.sweep = r := rfl
@[simp] theorem putAlloc_alloc (r : Option AllocRun) : (putAlloc r s).seatMap.alloc = r := rfl
@[simp] theorem putAlloc_seats (r : Option AllocRun) : (putAlloc r s).seatMap.seats = s.seatMap.seats := rfl
@[simp] theorem putRemark_remark (r : Option Remark) : (putRemark r s).marking.remark = r := rfl
@[simp] theorem putInFlight_inFlight (r : Option InFlight) : (putInFlight r s).marking.inFlight = r := rfl
@[simp] theorem putTransfer_transfer (t : Option Transfer) : (putTransfer t s).reader.transfer = t := rfl
@[simp] theorem putTransfer_stations (t : Option Transfer) : (putTransfer t s).reader.stations = s.reader.stations := rfl
@[simp] theorem putStation_transfer (n : Nat) (x : Station) : (putStation n x s).reader.transfer = s.reader.transfer := rfl
@[simp] theorem putReady_transfer (n : Nat) (low : Bool) : (putReady n low s).reader.transfer = s.reader.transfer := rfl
@[simp] theorem putReady_stations (n : Nat) (low : Bool) : (putReady n low s).reader.stations = s.reader.stations := rfl
@[simp] theorem stationOf_putReady (n m : Nat) (low : Bool) : stationOf (putReady n low s) m = stationOf s m := rfl
@[simp] theorem putTransfer_readyLow (t : Option Transfer) : (putTransfer t s).reader.readyLow = s.reader.readyLow := rfl
@[simp] theorem putStation_readyLow (n : Nat) (x : Station) : (putStation n x s).reader.readyLow = s.reader.readyLow := rfl
@[simp] theorem putCovers_covers (q : List CoverEntry) : (putCovers q s).coll.covers = q := rfl
@[simp] theorem putQueue_queue (q : List Nat) : (putQueue q s).store.queue = q := rfl
@[simp] theorem putQueue_slots (q : List Nat) : (putQueue q s).store.slots = s.store.slots := rfl
@[simp] theorem putSlot_queue (n : Nat) (x : Slot) : (putSlot n x s).store.queue = s.store.queue := rfl
@[simp] theorem putSlot_readJob (n : Nat) (x : Slot) : (putSlot n x s).store.readJob = s.store.readJob := rfl
@[simp] theorem putReadJob_readJob (j : Option ReadJob) : (putReadJob j s).store.readJob = j := rfl
@[simp] theorem putSession_clock (k : Nat) (x : Session) : (putSession k x s).timer.clock = s.timer.clock := rfl
@[simp] theorem putLine_desks (l : Nat) (x : Line) : (putLine l x s).desk.desks = s.desk.desks := rfl
@[simp] theorem putDesk_lines (l a : Nat) (x : Desk) : (putDesk l a x s).desk.lines = s.desk.lines := rfl

/-! ## Tables -/

/-- A table read after a write: the record written under its number, the old one under every other. -/
@[simp] theorem tableRead_tableWrite {α : Type} (d : α) (t : Table α) (n m : Nat) (x : α) :
    tableRead d (tableWrite t n x) m = if m = n then x else tableRead d t m := by
  induction t with
  | nil =>
    by_cases h : m = n
    · simp [tableWrite, tableRead, h]
    · simp [tableWrite, tableRead, h, Ne.symm h]
  | cons p t ih =>
    obtain ⟨k, v⟩ := p
    by_cases h1 : n < k
    · by_cases h : m = n
      · simp [tableWrite, tableRead, h1, h]
      · simp [tableWrite, tableRead, h1, h, Ne.symm h]
    · by_cases h2 : n = k
      · subst h2
        by_cases h : m = n
        · simp [tableWrite, tableRead, h]
        · simp [tableWrite, tableRead, h, Ne.symm h]
      · by_cases h3 : k = m
        · subst h3
          simp [tableWrite, tableRead, h1, h2, Ne.symm h2]
        · simp [tableWrite, tableRead, h1, h2, h3, ih]

/-- The numbers a write leaves in a table: the old ones and the one written. -/
theorem mem_keys_tableWrite {α : Type} (t : Table α) (n k : Nat) (x : α) :
    k ∈ (tableWrite t n x).map (·.1) ↔ k = n ∨ k ∈ t.map (·.1) := by
  induction t with
  | nil => simp [tableWrite]
  | cons p t ih =>
    by_cases h1 : n < p.1
    · simp [tableWrite, h1]
    · by_cases h2 : n = p.1
      · simp [tableWrite, h2]
      · simp only [tableWrite, h1, h2, if_false, List.map_cons, List.mem_cons, ih]
        tauto

/-- A write keeps a table's numbers rising. -/
theorem tableWrite_rising {α : Type} (t : Table α) (n : Nat) (x : α) (h : (t.map (·.1)).Pairwise (· < ·)) :
    ((tableWrite t n x).map (·.1)).Pairwise (· < ·) := by
  induction t with
  | nil => simp [tableWrite]
  | cons p t ih =>
    rw [List.map_cons, List.pairwise_cons] at h
    by_cases h1 : n < p.1
    · simp only [tableWrite, h1, if_true, List.map_cons, List.pairwise_cons, List.mem_cons]
      exact ⟨fun k hk => hk.elim (fun e => e ▸ h1) fun hk => lt_trans h1 (h.1 k hk), h⟩
    · by_cases h2 : n = p.1
      · simpa [tableWrite, h2, List.pairwise_cons] using h
      · simp only [tableWrite, h1, h2, if_false, List.map_cons, List.pairwise_cons]
        refine ⟨fun k hk => ?_, ih h.2⟩
        rcases (mem_keys_tableWrite t n k x).1 hk with rfl | hk
        · omega
        · exact h.1 k hk

/-- In a table whose numbers rise, a listed record is the one that is read under its number. -/
theorem tableRead_of_mem {α : Type} (d : α) (t : Table α) (n : Nat) (x : α) (h : (t.map (·.1)).Pairwise (· < ·))
    (hm : (n, x) ∈ t) : tableRead d t n = x := by
  induction t with
  | nil => cases hm
  | cons p t ih =>
    rw [List.map_cons, List.pairwise_cons] at h
    rcases List.mem_cons.1 hm with rfl | hm
    · simp [tableRead]
    · have hlt : p.1 < n := h.1 n (List.mem_map.2 ⟨(n, x), hm, rfl⟩)
      simp [tableRead, hlt.ne, ih h.2 hm]

@[simp] theorem seatOf_putSeat (n m : Nat) (x : Seat) :
    seatOf (putSeat n x s) m = if m = n then x else seatOf s m := by simp [seatOf, putSeat]
@[simp] theorem cursorOf_putCursor (n m : Nat) (x : Nat × Nat) :
    cursorOf (putCursor n x s) m = if m = n then x else cursorOf s m := by simp [cursorOf, putCursor]
@[simp] theorem sessionOf_putSession (n m : Nat) (x : Session) :
    sessionOf (putSession n x s) m = if m = n then x else sessionOf s m := by simp [sessionOf, putSession]
@[simp] theorem lineOf_putLine (n m : Nat) (x : Line) :
    lineOf (putLine n x s) m = if m = n then x else lineOf s m := by simp [lineOf, putLine]
@[simp] theorem readyIsLow_putReady (n m : Nat) (low : Bool) :
    readyIsLow (putReady n low s) m = if m = n then low else readyIsLow s m := by simp [readyIsLow, putReady]
@[simp] theorem stationOf_putStation (n m : Nat) (x : Station) :
    stationOf (putStation n x s) m = if m = n then x else stationOf s m := by simp [stationOf, putStation]
@[simp] theorem slotOf_putSlot (n m : Nat) (x : Slot) :
    slotOf (putSlot n x s) m = if m = n then x else slotOf s m := by simp [slotOf, putSlot]
@[simp] theorem bundleOf_putBundle (n m : Nat) (x : Option Bundle) :
    bundleOf (putBundle n x s) m = if m = n then x else bundleOf s m := by simp [bundleOf, putBundle]
@[simp] theorem keyOf_putKey (n m : Nat) (x : Key) :
    keyOf (putKey n x s) m = if m = n then x else keyOf s m := by simp [keyOf, putKey]
/-- Two addresses of lines share a desk record only when they are the same desk. -/
theorem deskKey_inj {l a m b : Nat} (ha : a < 256) (hb : b < 256) (h : deskKey l a = deskKey m b) :
    l = m ∧ a = b := by unfold deskKey at h; omega
@[simp] theorem deskOf_putDesk (l a m b : Nat) (x : Desk) :
    deskOf (putDesk l a x s) m b = if deskKey m b = deskKey l a then x else deskOf s m b := by
  simp [deskOf, putDesk]
/-- A candidate record read after one was written over another of its number. -/
@[simp] theorem candidateOf_putCandidate (c : Candidate) (n : Nat) :
    candidateOf (putCandidate c s) n = if n = c.number then (candidateOf s n).map fun _ => c else candidateOf s n := by
  unfold candidateOf putCandidate
  simp only
  induction s.roster with
  | nil => simp
  | cons d ds ih =>
    by_cases h : d.number = c.number
    · by_cases hn : n = c.number
      · simp [h, hn]
      · simp only [hn, if_false] at ih
        simp [h, hn, ih, Ne.symm hn]
    · by_cases hn : n = d.number
      · have : ¬ n = c.number := fun e => h (hn ▸ e)
        simp [h, hn]
      · simp only [List.map_cons, h, if_false]
        rw [List.find?_cons_of_neg (by simpa using Ne.symm hn), List.find?_cons_of_neg (by simpa using Ne.symm hn), ih]

end Sys2Proof.Machine
end

