-- ==== Sys2Proof/Laws/Ops.lean ====
section
/-! SUPPORT. What each shared operation can do, said once: notices, replies, owed deliveries, entering a state, and the two
frames of a command's meaning. -/

namespace Sys2Proof.Machine

variable (s : State)

/-! ## forEach -/

/-- What every step of a loop keeps, the loop keeps. -/
theorem forEach_keeps {α β : Type} (g : State → β) (f : α → State → State) (h : ∀ x t, g (f x t) = g t)
    (xs : List α) : g (forEach xs f s) = g s := by
  induction xs generalizing s with
  | nil => rfl
  | cons x xs ih =>
    have e : forEach (x :: xs) f s = forEach xs f (f x s) := rfl
    rw [e, ih (f x s), h]

/-- An invariant of every step of a loop is one of the loop. -/
theorem forEach_inv {α : Type} (P : State → Prop) (f : α → State → State) (h : ∀ x t, P t → P (f x t))
    (xs : List α) (hs : P s) : P (forEach xs f s) := by
  induction xs generalizing s with
  | nil => exact hs
  | cons x xs ih => exact ih (f x s) (h x s hs)

/-! ## raise: a notice changes the link alone (R197) -/

@[simp] theorem raise_pending (n : Notice) : (raise n s).pending = s.pending := by unfold raise; split <;> [rfl; (split <;> rfl)]
@[simp] theorem raise_powered (n : Notice) : (raise n s).powered = s.powered := by unfold raise; split <;> [rfl; (split <;> rfl)]
@[simp] theorem raise_fresh (n : Notice) : (raise n s).fresh = s.fresh := by unfold raise; split <;> [rfl; (split <;> rfl)]
@[simp] theorem raise_seatMap (n : Notice) : (raise n s).seatMap = s.seatMap := by unfold raise; split <;> [rfl; (split <;> rfl)]
@[simp] theorem raise_roster (n : Notice) : (raise n s).roster = s.roster := by unfold raise; split <;> [rfl; (split <;> rfl)]
@[simp] theorem raise_timer (n : Notice) : (raise n s).timer = s.timer := by unfold raise; split <;> [rfl; (split <;> rfl)]
@[simp] theorem raise_desk (n : Notice) : (raise n s).desk = s.desk := by unfold raise; split <;> [rfl; (split <;> rfl)]
@[simp] theorem raise_boards (n : Notice) : (raise n s).boards = s.boards := by unfold raise; split <;> [rfl; (split <;> rfl)]
@[simp] theorem raise_reader (n : Notice) : (raise n s).reader = s.reader := by unfold raise; split <;> [rfl; (split <;> rfl)]
@[simp] theorem raise_store (n : Notice) : (raise n s).store = s.store := by unfold raise; split <;> [rfl; (split <;> rfl)]
@[simp] theorem raise_coll (n : Notice) : (raise n s).coll = s.coll := by unfold raise; split <;> [rfl; (split <;> rfl)]
@[simp] theorem raise_marking (n : Notice) : (raise n s).marking = s.marking := by unfold raise; split <;> [rfl; (split <;> rfl)]

/-- Everything a raise can do: nothing (the notice is masked), join the tail, or count the loss (R197). -/
theorem raise_cases (n : Notice) :
    (s.link.options.noticeMask.getLsbD (noticeCode n) = true ∧ raise n s = s) ∨
    (s.link.options.noticeMask.getLsbD (noticeCode n) = false ∧ s.link.notices.length < 64 ∧
      raise n s = { s with link := { s.link with notices := s.link.notices ++ [n] } }) ∨
    (s.link.options.noticeMask.getLsbD (noticeCode n) = false ∧ 64 ≤ s.link.notices.length ∧
      raise n s = { s with link := { s.link with lost := bump s.link.lost } }) := by
  unfold raise
  by_cases h : s.link.options.noticeMask.getLsbD (noticeCode n) = true
  · left; simp [h]
  · right
    simp only [Bool.not_eq_true] at h
    by_cases hl : s.link.notices.length < 64
    · left; simp [h, hl, Config.noticeCount]
    · right; simp only [not_lt] at hl; refine ⟨h, hl, ?_⟩; simp [h, Config.noticeCount, Nat.not_lt.mpr hl]

@[simp] theorem raise_link_buffer (n : Notice) : (raise n s).link.buffer = s.link.buffer := by unfold raise; split <;> [rfl; (split <;> rfl)]
@[simp] theorem raise_link_replies (n : Notice) : (raise n s).link.replies = s.link.replies := by unfold raise; split <;> [rfl; (split <;> rfl)]
@[simp] theorem raise_link_fault (n : Notice) : (raise n s).link.fault = s.link.fault := by unfold raise; split <;> [rfl; (split <;> rfl)]
@[simp] theorem raise_link_nonOk (n : Notice) : (raise n s).link.nonOk = s.link.nonOk := by unfold raise; split <;> [rfl; (split <;> rfl)]
@[simp] theorem raise_link_discardLength (n : Notice) : (raise n s).link.discardLength = s.link.discardLength := by unfold raise; split <;> [rfl; (split <;> rfl)]
@[simp] theorem raise_link_discardGap (n : Notice) : (raise n s).link.discardGap = s.link.discardGap := by unfold raise; split <;> [rfl; (split <;> rfl)]
@[simp] theorem raise_link_discardCheck (n : Notice) : (raise n s).link.discardCheck = s.link.discardCheck := by unfold raise; split <;> [rfl; (split <;> rfl)]
@[simp] theorem raise_link_discardOverrun (n : Notice) : (raise n s).link.discardOverrun = s.link.discardOverrun := by unfold raise; split <;> [rfl; (split <;> rfl)]
@[simp] theorem raise_link_assembly (n : Notice) : (raise n s).link.assembly = s.link.assembly := by unfold raise; split <;> [rfl; (split <;> rfl)]
@[simp] theorem raise_link_options (n : Notice) : (raise n s).link.options = s.link.options := by unfold raise; split <;> [rfl; (split <;> rfl)]
@[simp] theorem raise_link_fastBaud (n : Notice) : (raise n s).link.fastBaud = s.link.fastBaud := by unfold raise; split <;> [rfl; (split <;> rfl)]
@[simp] theorem raise_link_lastStart (n : Notice) : (raise n s).link.lastStart = s.link.lastStart := by unfold raise; split <;> [rfl; (split <;> rfl)]
@[simp] theorem raise_link_retention (n : Notice) : (raise n s).link.retention = s.link.retention := by unfold raise; split <;> [rfl; (split <;> rfl)]
@[simp] theorem raise_link_restart (n : Notice) : (raise n s).link.restart = s.link.restart := by unfold raise; split <;> [rfl; (split <;> rfl)]
@[simp] theorem raise_link_lastSent (n : Notice) : (raise n s).link.lastSent = s.link.lastSent := by unfold raise; split <;> [rfl; (split <;> rfl)]

/-! ## makeReply: a reply changes the link alone (R191, R193) -/

@[simp] theorem makeReply_pending (q : Req) (r : Result) (d : Detail) (o : Option Nat) (fs : List Field) (b : Bool) :
    (makeReply q r d o fs b s).pending = s.pending := by unfold makeReply recordFault; dsimp only; split <;> rfl
@[simp] theorem makeReply_powered (q : Req) (r : Result) (d : Detail) (o : Option Nat) (fs : List Field) (b : Bool) :
    (makeReply q r d o fs b s).powered = s.powered := by unfold makeReply recordFault; dsimp only; split <;> rfl
@[simp] theorem makeReply_fresh (q : Req) (r : Result) (d : Detail) (o : Option Nat) (fs : List Field) (b : Bool) :
    (makeReply q r d o fs b s).fresh = s.fresh := by unfold makeReply recordFault; dsimp only; split <;> rfl
@[simp] theorem makeReply_seatMap (q : Req) (r : Result) (d : Detail) (o : Option Nat) (fs : List Field) (b : Bool) :
    (makeReply q r d o fs b s).seatMap = s.seatMap := by unfold makeReply recordFault; dsimp only; split <;> rfl
@[simp] theorem makeReply_roster (q : Req) (r : Result) (d : Detail) (o : Option Nat) (fs : List Field) (b : Bool) :
    (makeReply q r d o fs b s).roster = s.roster := by unfold makeReply recordFault; dsimp only; split <;> rfl
@[simp] theorem makeReply_timer (q : Req) (r : Result) (d : Detail) (o : Option Nat) (fs : List Field) (b : Bool) :
    (makeReply q r d o fs b s).timer = s.timer := by unfold makeReply recordFault; dsimp only; split <;> rfl
@[simp] theorem makeReply_desk (q : Req) (r : Result) (d : Detail) (o : Option Nat) (fs : List Field) (b : Bool) :
    (makeReply q r d o fs b s).desk = s.desk := by unfold makeReply recordFault; dsimp only; split <;> rfl
@[simp] theorem makeReply_boards (q : Req) (r : Result) (d : Detail) (o : Option Nat) (fs : List Field) (b : Bool) :
    (makeReply q r d o fs b s).boards = s.boards := by unfold makeReply recordFault; dsimp only; split <;> rfl
@[simp] theorem makeReply_reader (q : Req) (r : Result) (d : Detail) (o : Option Nat) (fs : List Field) (b : Bool) :
    (makeReply q r d o fs b s).reader = s.reader := by unfold makeReply recordFault; dsimp only; split <;> rfl
@[simp] theorem makeReply_store (q : Req) (r : Result) (d : Detail) (o : Option Nat) (fs : List Field) (b : Bool) :
    (makeReply q r d o fs b s).store = s.store := by unfold makeReply recordFault; dsimp only; split <;> rfl
@[simp] theorem makeReply_coll (q : Req) (r : Result) (d : Detail) (o : Option Nat) (fs : List Field) (b : Bool) :
    (makeReply q r d o fs b s).coll = s.coll := by unfold makeReply recordFault; dsimp only; split <;> rfl
@[simp] theorem makeReply_marking (q : Req) (r : Result) (d : Detail) (o : Option Nat) (fs : List Field) (b : Bool) :
    (makeReply q r d o fs b s).marking = s.marking := by unfold makeReply recordFault; dsimp only; split <;> rfl

/-- An OK reply joins the tail of the reply list, and nothing else changes (R191). -/
theorem makeReply_ok (q : Req) (d : Detail) (o : Option Nat) (fs : List Field) (b : Bool) :
    makeReply q .ok d o fs b s = { s with link := { s.link with
      replies := s.link.replies ++ [⟨q.tag, q.code, .ok, fs, b⟩] } } := by simp [makeReply]

/-- A short OK reply, as a change of the reply list alone. -/
theorem ok_eq (q : Req) (fs : List Field) :
    ok q fs s = { s with link := { s.link with replies := s.link.replies ++ [⟨q.tag, q.code, .ok, fs, false⟩] } } := by
  simp [ok, makeReply]

/-! ## Owed deliveries: they change the desk table alone (R86) -/

@[simp] theorem oweAt_pending (l a : Nat) (f : Desk → Desk) : (oweAt l a f s).pending = s.pending := by
  unfold oweAt; split <;> rfl
@[simp] theorem oweAt_powered (l a : Nat) (f : Desk → Desk) : (oweAt l a f s).powered = s.powered := by
  unfold oweAt; split <;> rfl
@[simp] theorem oweAt_fresh (l a : Nat) (f : Desk → Desk) : (oweAt l a f s).fresh = s.fresh := by
  unfold oweAt; split <;> rfl
@[simp] theorem oweAt_link (l a : Nat) (f : Desk → Desk) : (oweAt l a f s).link = s.link := by
  unfold oweAt; split <;> rfl
@[simp] theorem oweAt_seatMap (l a : Nat) (f : Desk → Desk) : (oweAt l a f s).seatMap = s.seatMap := by
  unfold oweAt; split <;> rfl
@[simp] theorem oweAt_roster (l a : Nat) (f : Desk → Desk) : (oweAt l a f s).roster = s.roster := by
  unfold oweAt; split <;> rfl
@[simp] theorem oweAt_timer (l a : Nat) (f : Desk → Desk) : (oweAt l a f s).timer = s.timer := by
  unfold oweAt; split <;> rfl
@[simp] theorem oweAt_boards (l a : Nat) (f : Desk → Desk) : (oweAt l a f s).boards = s.boards := by
  unfold oweAt; split <;> rfl
@[simp] theorem oweAt_reader (l a : Nat) (f : Desk → Desk) : (oweAt l a f s).reader = s.reader := by
  unfold oweAt; split <;> rfl
@[simp] theorem oweAt_store (l a : Nat) (f : Desk → Desk) : (oweAt l a f s).store = s.store := by
  unfold oweAt; split <;> rfl
@[simp] theorem oweAt_coll (l a : Nat) (f : Desk → Desk) : (oweAt l a f s).coll = s.coll := by
  unfold oweAt; split <;> rfl
@[simp] theorem oweAt_marking (l a : Nat) (f : Desk → Desk) : (oweAt l a f s).marking = s.marking := by
  unfold oweAt; split <;> rfl
@[simp] theorem oweAt_lines (l a : Nat) (f : Desk → Desk) : (oweAt l a f s).desk.lines = s.desk.lines := by
  unfold oweAt; split <;> rfl

/-- All that owing at a desk can do: the record of that desk is changed where it takes new deliveries, and no other (R82,
R95). -/
theorem deskOf_oweAt (l a m b : Nat) (f : Desk → Desk) :
    deskOf (oweAt l a f s) m b =
      if deskTakes s l a = true ∧ deskKey m b = deskKey l a then f (deskOf s l a) else deskOf s m b := by
  unfold oweAt; by_cases h : deskTakes s l a = true <;> simp [h]

/-- Owing changes no line record, so every desk goes on taking deliveries as before. -/
@[simp] theorem deskTakes_oweAt (l a m b : Nat) (f : Desk → Desk) :
    deskTakes (oweAt l a f s) m b = deskTakes s m b := by
  unfold oweAt; split <;> rfl

@[simp] theorem oweEnd_pending (l a : Nat) : (oweEnd l a s).pending = s.pending := by simp [oweEnd]
@[simp] theorem oweEnd_powered (l a : Nat) : (oweEnd l a s).powered = s.powered := by simp [oweEnd]
@[simp] theorem oweEnd_fresh (l a : Nat) : (oweEnd l a s).fresh = s.fresh := by simp [oweEnd]
@[simp] theorem oweEnd_link (l a : Nat) : (oweEnd l a s).link = s.link := by simp [oweEnd]
@[simp] theorem oweEnd_seatMap (l a : Nat) : (oweEnd l a s).seatMap = s.seatMap := by simp [oweEnd]
@[simp] theorem oweEnd_roster (l a : Nat) : (oweEnd l a s).roster = s.roster := by simp [oweEnd]
@[simp] theorem oweEnd_timer (l a : Nat) : (oweEnd l a s).timer = s.timer := by simp [oweEnd]
@[simp] theorem oweEnd_boards (l a : Nat) : (oweEnd l a s).boards = s.boards := by simp [oweEnd]
@[simp] theorem oweEnd_reader (l a : Nat) : (oweEnd l a s).reader = s.reader := by simp [oweEnd]
@[simp] theorem oweEnd_store (l a : Nat) : (oweEnd l a s).store = s.store := by simp [oweEnd]
@[simp] theorem oweEnd_coll (l a : Nat) : (oweEnd l a s).coll = s.coll := by simp [oweEnd]
@[simp] theorem oweEnd_marking (l a : Nat) : (oweEnd l a s).marking = s.marking := by simp [oweEnd]
@[simp] theorem oweSeat_pending (l a : Nat) : (oweSeat l a s).pending = s.pending := by simp [oweSeat]
@[simp] theorem oweSeat_powered (l a : Nat) : (oweSeat l a s).powered = s.powered := by simp [oweSeat]
@[simp] theorem oweSeat_fresh (l a : Nat) : (oweSeat l a s).fresh = s.fresh := by simp [oweSeat]
@[simp] theorem oweSeat_link (l a : Nat) : (oweSeat l a s).link = s.link := by simp [oweSeat]
@[simp] theorem oweSeat_seatMap (l a : Nat) : (oweSeat l a s).seatMap = s.seatMap := by simp [oweSeat]
@[simp] theorem oweSeat_roster (l a : Nat) : (oweSeat l a s).roster = s.roster := by simp [oweSeat]
@[simp] theorem oweSeat_timer (l a : Nat) : (oweSeat l a s).timer = s.timer := by simp [oweSeat]
@[simp] theorem oweSeat_boards (l a : Nat) : (oweSeat l a s).boards = s.boards := by simp [oweSeat]
@[simp] theorem oweSeat_reader (l a : Nat) : (oweSeat l a s).reader = s.reader := by simp [oweSeat]
@[simp] theorem oweSeat_store (l a : Nat) : (oweSeat l a s).store = s.store := by simp [oweSeat]
@[simp] theorem oweSeat_coll (l a : Nat) : (oweSeat l a s).coll = s.coll := by simp [oweSeat]
@[simp] theorem oweSeat_marking (l a : Nat) : (oweSeat l a s).marking = s.marking := by simp [oweSeat]
@[simp] theorem oweDisplay_pending (l a : Nat) (c : DisplayCode) : (oweDisplay l a c s).pending = s.pending := by
  simp [oweDisplay]
@[simp] theorem oweDisplay_powered (l a : Nat) (c : DisplayCode) : (oweDisplay l a c s).powered = s.powered := by
  simp [oweDisplay]
@[simp] theorem oweDisplay_fresh (l a : Nat) (c : DisplayCode) : (oweDisplay l a c s).fresh = s.fresh := by simp [oweDisplay]
@[simp] theorem oweDisplay_link (l a : Nat) (c : DisplayCode) : (oweDisplay l a c s).link = s.link := by simp [oweDisplay]
@[simp] theorem oweDisplay_seatMap (l a : Nat) (c : DisplayCode) : (oweDisplay l a c s).seatMap = s.seatMap := by
  simp [oweDisplay]
@[simp] theorem oweDisplay_roster (l a : Nat) (c : DisplayCode) : (oweDisplay l a c s).roster = s.roster := by
  simp [oweDisplay]
@[simp] theorem oweDisplay_timer (l a : Nat) (c : DisplayCode) : (oweDisplay l a c s).timer = s.timer := by simp [oweDisplay]
@[simp] theorem oweDisplay_boards (l a : Nat) (c : DisplayCode) : (oweDisplay l a c s).boards = s.boards := by
  simp [oweDisplay]
@[simp] theorem oweDisplay_reader (l a : Nat) (c : DisplayCode) : (oweDisplay l a c s).reader = s.reader := by
  simp [oweDisplay]
@[simp] theorem oweDisplay_store (l a : Nat) (c : DisplayCode) : (oweDisplay l a c s).store = s.store := by simp [oweDisplay]
@[simp] theorem oweDisplay_coll (l a : Nat) (c : DisplayCode) : (oweDisplay l a c s).coll = s.coll := by simp [oweDisplay]
@[simp] theorem oweDisplay_marking (l a : Nat) (c : DisplayCode) : (oweDisplay l a c s).marking = s.marking := by
  simp [oweDisplay]
@[simp] theorem oweEndAtSeat_pending (n : Nat) : (oweEndAtSeat n s).pending = s.pending := by simp [oweEndAtSeat]
@[simp] theorem oweEndAtSeat_powered (n : Nat) : (oweEndAtSeat n s).powered = s.powered := by simp [oweEndAtSeat]
@[simp] theorem oweEndAtSeat_fresh (n : Nat) : (oweEndAtSeat n s).fresh = s.fresh := by simp [oweEndAtSeat]
@[simp] theorem oweEndAtSeat_link (n : Nat) : (oweEndAtSeat n s).link = s.link := by simp [oweEndAtSeat]
@[simp] theorem oweEndAtSeat_seatMap (n : Nat) : (oweEndAtSeat n s).seatMap = s.seatMap := by simp [oweEndAtSeat]
@[simp] theorem oweEndAtSeat_roster (n : Nat) : (oweEndAtSeat n s).roster = s.roster := by simp [oweEndAtSeat]
@[simp] theorem oweEndAtSeat_timer (n : Nat) : (oweEndAtSeat n s).timer = s.timer := by simp [oweEndAtSeat]
@[simp] theorem oweEndAtSeat_boards (n : Nat) : (oweEndAtSeat n s).boards = s.boards := by simp [oweEndAtSeat]
@[simp] theorem oweEndAtSeat_reader (n : Nat) : (oweEndAtSeat n s).reader = s.reader := by simp [oweEndAtSeat]
@[simp] theorem oweEndAtSeat_store (n : Nat) : (oweEndAtSeat n s).store = s.store := by simp [oweEndAtSeat]
@[simp] theorem oweEndAtSeat_coll (n : Nat) : (oweEndAtSeat n s).coll = s.coll := by simp [oweEndAtSeat]
@[simp] theorem oweEndAtSeat_marking (n : Nat) : (oweEndAtSeat n s).marking = s.marking := by simp [oweEndAtSeat]
@[simp] theorem oweSeatAtSeat_pending (n : Nat) : (oweSeatAtSeat n s).pending = s.pending := by simp [oweSeatAtSeat]
@[simp] theorem oweSeatAtSeat_powered (n : Nat) : (oweSeatAtSeat n s).powered = s.powered := by simp [oweSeatAtSeat]
@[simp] theorem oweSeatAtSeat_fresh (n : Nat) : (oweSeatAtSeat n s).fresh = s.fresh := by simp [oweSeatAtSeat]
@[simp] theorem oweSeatAtSeat_link (n : Nat) : (oweSeatAtSeat n s).link = s.link := by simp [oweSeatAtSeat]
@[simp] theorem oweSeatAtSeat_seatMap (n : Nat) : (oweSeatAtSeat n s).seatMap = s.seatMap := by simp [oweSeatAtSeat]
@[simp] theorem oweSeatAtSeat_roster (n : Nat) : (oweSeatAtSeat n s).roster = s.roster := by simp [oweSeatAtSeat]
@[simp] theorem oweSeatAtSeat_timer (n : Nat) : (oweSeatAtSeat n s).timer = s.timer := by simp [oweSeatAtSeat]
@[simp] theorem oweSeatAtSeat_boards (n : Nat) : (oweSeatAtSeat n s).boards = s.boards := by simp [oweSeatAtSeat]
@[simp] theorem oweSeatAtSeat_reader (n : Nat) : (oweSeatAtSeat n s).reader = s.reader := by simp [oweSeatAtSeat]
@[simp] theorem oweSeatAtSeat_store (n : Nat) : (oweSeatAtSeat n s).store = s.store := by simp [oweSeatAtSeat]
@[simp] theorem oweSeatAtSeat_coll (n : Nat) : (oweSeatAtSeat n s).coll = s.coll := by simp [oweSeatAtSeat]
@[simp] theorem oweSeatAtSeat_marking (n : Nat) : (oweSeatAtSeat n s).marking = s.marking := by simp [oweSeatAtSeat]
@[simp] theorem oweEndAt_pending (c : Candidate) : (oweEndAt c s).pending = s.pending := by unfold oweEndAt; split <;> simp
@[simp] theorem oweEndAt_powered (c : Candidate) : (oweEndAt c s).powered = s.powered := by unfold oweEndAt; split <;> simp
@[simp] theorem oweEndAt_fresh (c : Candidate) : (oweEndAt c s).fresh = s.fresh := by unfold oweEndAt; split <;> simp
@[simp] theorem oweEndAt_link (c : Candidate) : (oweEndAt c s).link = s.link := by unfold oweEndAt; split <;> simp
@[simp] theorem oweEndAt_seatMap (c : Candidate) : (oweEndAt c s).seatMap = s.seatMap := by unfold oweEndAt; split <;> simp
@[simp] theorem oweEndAt_roster (c : Candidate) : (oweEndAt c s).roster = s.roster := by unfold oweEndAt; split <;> simp
@[simp] theorem oweEndAt_timer (c : Candidate) : (oweEndAt c s).timer = s.timer := by unfold oweEndAt; split <;> simp
@[simp] theorem oweEndAt_boards (c : Candidate) : (oweEndAt c s).boards = s.boards := by unfold oweEndAt; split <;> simp
@[simp] theorem oweEndAt_reader (c : Candidate) : (oweEndAt c s).reader = s.reader := by unfold oweEndAt; split <;> simp
@[simp] theorem oweEndAt_store (c : Candidate) : (oweEndAt c s).store = s.store := by unfold oweEndAt; split <;> simp
@[simp] theorem oweEndAt_coll (c : Candidate) : (oweEndAt c s).coll = s.coll := by unfold oweEndAt; split <;> simp
@[simp] theorem oweEndAt_marking (c : Candidate) : (oweEndAt c s).marking = s.marking := by unfold oweEndAt; split <;> simp

/-! ## Entering a state (R29, R52) -/

@[simp] theorem enterState_pending (c : Candidate) (n : CandState) (k : CandCause) : (enterState c n k s).pending = s.pending := by
  simp [enterState]
@[simp] theorem enterState_powered (c : Candidate) (n : CandState) (k : CandCause) : (enterState c n k s).powered = s.powered := by
  simp [enterState]
@[simp] theorem enterState_fresh (c : Candidate) (n : CandState) (k : CandCause) : (enterState c n k s).fresh = s.fresh := by
  simp [enterState]
@[simp] theorem enterState_seatMap (c : Candidate) (n : CandState) (k : CandCause) : (enterState c n k s).seatMap = s.seatMap := by
  simp [enterState]
@[simp] theorem enterState_timer (c : Candidate) (n : CandState) (k : CandCause) : (enterState c n k s).timer = s.timer := by
  simp [enterState]
@[simp] theorem enterState_desk (c : Candidate) (n : CandState) (k : CandCause) : (enterState c n k s).desk = s.desk := by
  simp [enterState]
@[simp] theorem enterState_boards (c : Candidate) (n : CandState) (k : CandCause) : (enterState c n k s).boards = s.boards := by
  simp [enterState]
@[simp] theorem enterState_reader (c : Candidate) (n : CandState) (k : CandCause) : (enterState c n k s).reader = s.reader := by
  simp [enterState]
@[simp] theorem enterState_store (c : Candidate) (n : CandState) (k : CandCause) : (enterState c n k s).store = s.store := by
  simp [enterState]
@[simp] theorem enterState_coll (c : Candidate) (n : CandState) (k : CandCause) : (enterState c n k s).coll = s.coll := by
  simp [enterState]
@[simp] theorem enterState_marking (c : Candidate) (n : CandState) (k : CandCause) : (enterState c n k s).marking = s.marking := by
  simp [enterState]
@[simp] theorem enterSession_pending (i : Nat) (y : Session) (n : SessState) (k : SessCause) :
    (enterSession i y n k s).pending = s.pending := by simp [enterSession]
@[simp] theorem enterSession_powered (i : Nat) (y : Session) (n : SessState) (k : SessCause) :
    (enterSession i y n k s).powered = s.powered := by simp [enterSession]
@[simp] theorem enterSession_fresh (i : Nat) (y : Session) (n : SessState) (k : SessCause) :
    (enterSession i y n k s).fresh = s.fresh := by simp [enterSession]
@[simp] theorem enterSession_seatMap (i : Nat) (y : Session) (n : SessState) (k : SessCause) :
    (enterSession i y n k s).seatMap = s.seatMap := by simp [enterSession]
@[simp] theorem enterSession_roster (i : Nat) (y : Session) (n : SessState) (k : SessCause) :
    (enterSession i y n k s).roster = s.roster := by simp [enterSession]
@[simp] theorem enterSession_desk (i : Nat) (y : Session) (n : SessState) (k : SessCause) :
    (enterSession i y n k s).desk = s.desk := by simp [enterSession]
@[simp] theorem enterSession_boards (i : Nat) (y : Session) (n : SessState) (k : SessCause) :
    (enterSession i y n k s).boards = s.boards := by simp [enterSession]
@[simp] theorem enterSession_reader (i : Nat) (y : Session) (n : SessState) (k : SessCause) :
    (enterSession i y n k s).reader = s.reader := by simp [enterSession]
@[simp] theorem enterSession_store (i : Nat) (y : Session) (n : SessState) (k : SessCause) :
    (enterSession i y n k s).store = s.store := by simp [enterSession]
@[simp] theorem enterSession_coll (i : Nat) (y : Session) (n : SessState) (k : SessCause) :
    (enterSession i y n k s).coll = s.coll := by simp [enterSession]
@[simp] theorem enterSession_marking (i : Nat) (y : Session) (n : SessState) (k : SessCause) :
    (enterSession i y n k s).marking = s.marking := by simp [enterSession]
@[simp] theorem enterLine_pending (l : Nat) (y : Line) (n : LineState) (k : LineCause) :
    (enterLine l y n k s).pending = s.pending := by simp [enterLine]
@[simp] theorem enterLine_powered (l : Nat) (y : Line) (n : LineState) (k : LineCause) :
    (enterLine l y n k s).powered = s.powered := by simp [enterLine]
@[simp] theorem enterLine_fresh (l : Nat) (y : Line) (n : LineState) (k : LineCause) :
    (enterLine l y n k s).fresh = s.fresh := by simp [enterLine]
@[simp] theorem enterLine_seatMap (l : Nat) (y : Line) (n : LineState) (k : LineCause) :
    (enterLine l y n k s).seatMap = s.seatMap := by simp [enterLine]
@[simp] theorem enterLine_roster (l : Nat) (y : Line) (n : LineState) (k : LineCause) :
    (enterLine l y n k s).roster = s.roster := by simp [enterLine]
@[simp] theorem enterLine_timer (l : Nat) (y : Line) (n : LineState) (k : LineCause) :
    (enterLine l y n k s).timer = s.timer := by simp [enterLine]
@[simp] theorem enterLine_boards (l : Nat) (y : Line) (n : LineState) (k : LineCause) :
    (enterLine l y n k s).boards = s.boards := by simp [enterLine]
@[simp] theorem enterLine_reader (l : Nat) (y : Line) (n : LineState) (k : LineCause) :
    (enterLine l y n k s).reader = s.reader := by simp [enterLine]
@[simp] theorem enterLine_store (l : Nat) (y : Line) (n : LineState) (k : LineCause) :
    (enterLine l y n k s).store = s.store := by simp [enterLine]
@[simp] theorem enterLine_coll (l : Nat) (y : Line) (n : LineState) (k : LineCause) :
    (enterLine l y n k s).coll = s.coll := by simp [enterLine]
@[simp] theorem enterLine_marking (l : Nat) (y : Line) (n : LineState) (k : LineCause) :
    (enterLine l y n k s).marking = s.marking := by simp [enterLine]
@[simp] theorem enterStation_pending (i : Nat) (y : Station) (n : StationState) (k : StationCause)
    (m : Option (Option Nat × Nat)) : (enterStation i y n k m s).pending = s.pending := by simp [enterStation]
@[simp] theorem enterStation_powered (i : Nat) (y : Station) (n : StationState) (k : StationCause)
    (m : Option (Option Nat × Nat)) : (enterStation i y n k m s).powered = s.powered := by simp [enterStation]
@[simp] theorem enterStation_fresh (i : Nat) (y : Station) (n : StationState) (k : StationCause)
    (m : Option (Option Nat × Nat)) : (enterStation i y n k m s).fresh = s.fresh := by simp [enterStation]
@[simp] theorem enterStation_seatMap (i : Nat) (y : Station) (n : StationState) (k : StationCause)
    (m : Option (Option Nat × Nat)) : (enterStation i y n k m s).seatMap = s.seatMap := by simp [enterStation]
@[simp] theorem enterStation_roster (i : Nat) (y : Station) (n : StationState) (k : StationCause)
    (m : Option (Option Nat × Nat)) : (enterStation i y n k m s).roster = s.roster := by simp [enterStation]
@[simp] theorem enterStation_timer (i : Nat) (y : Station) (n : StationState) (k : StationCause)
    (m : Option (Option Nat × Nat)) : (enterStation i y n k m s).timer = s.timer := by simp [enterStation]
@[simp] theorem enterStation_desk (i : Nat) (y : Station) (n : StationState) (k : StationCause)
    (m : Option (Option Nat × Nat)) : (enterStation i y n k m s).desk = s.desk := by simp [enterStation]
@[simp] theorem enterStation_boards (i : Nat) (y : Station) (n : StationState) (k : StationCause)
    (m : Option (Option Nat × Nat)) : (enterStation i y n k m s).boards = s.boards := by simp [enterStation]
@[simp] theorem enterStation_store (i : Nat) (y : Station) (n : StationState) (k : StationCause)
    (m : Option (Option Nat × Nat)) : (enterStation i y n k m s).store = s.store := by simp [enterStation]
@[simp] theorem enterStation_coll (i : Nat) (y : Station) (n : StationState) (k : StationCause)
    (m : Option (Option Nat × Nat)) : (enterStation i y n k m s).coll = s.coll := by simp [enterStation]
@[simp] theorem enterStation_marking (i : Nat) (y : Station) (n : StationState) (k : StationCause)
    (m : Option (Option Nat × Nat)) : (enterStation i y n k m s).marking = s.marking := by simp [enterStation]
@[simp] theorem enterStation_readyLow (i : Nat) (y : Station) (n : StationState) (k : StationCause)
    (m : Option (Option Nat × Nat)) : (enterStation i y n k m s).reader.readyLow = s.reader.readyLow := by simp [enterStation]
@[simp] theorem freeSlot_readyLow (n : Nat) : (freeSlot n s).reader.readyLow = s.reader.readyLow := rfl
/-- A grant leaves every ready line as it stands (R123). -/
@[simp] theorem portGrantBody_readyLow : (portGrantBody s).reader.readyLow = s.reader.readyLow := by
  unfold portGrantBody
  split
  · rfl
  · split
    · rfl
    · unfold grantTo
      simp only
      split <;> rfl
/-- A transfer that breaks off leaves every ready line as it stands, the grant in its step included (R123). -/
theorem breakOff_readyLow (t : Transfer) (y : Station) (n : StationState) (k : StationCause) :
    (breakOff t y n k s).reader.readyLow = s.reader.readyLow := by
  unfold breakOff dropTransfer
  split <;> simp

/-! ## The two frames of a meaning (R190, R195) -/

@[simp] theorem noteRetained_pending (t : State) : (noteRetained s t).pending = t.pending := by unfold noteRetained; split <;> rfl
@[simp] theorem noteRetained_powered (t : State) : (noteRetained s t).powered = t.powered := by unfold noteRetained; split <;> rfl
@[simp] theorem noteRetained_fresh (t : State) : (noteRetained s t).fresh = t.fresh := by unfold noteRetained; split <;> rfl
@[simp] theorem noteRetained_seatMap (t : State) : (noteRetained s t).seatMap = t.seatMap := by unfold noteRetained; split <;> rfl
@[simp] theorem noteRetained_roster (t : State) : (noteRetained s t).roster = t.roster := by unfold noteRetained; split <;> rfl
@[simp] theorem noteRetained_timer (t : State) : (noteRetained s t).timer = t.timer := by unfold noteRetained; split <;> rfl
@[simp] theorem noteRetained_desk (t : State) : (noteRetained s t).desk = t.desk := by unfold noteRetained; split <;> rfl
@[simp] theorem noteRetained_boards (t : State) : (noteRetained s t).boards = t.boards := by unfold noteRetained; split <;> rfl
@[simp] theorem noteRetained_reader (t : State) : (noteRetained s t).reader = t.reader := by unfold noteRetained; split <;> rfl
@[simp] theorem noteRetained_store (t : State) : (noteRetained s t).store = t.store := by unfold noteRetained; split <;> rfl
@[simp] theorem noteRetained_coll (t : State) : (noteRetained s t).coll = t.coll := by unfold noteRetained; split <;> rfl
@[simp] theorem noteRetained_marking (t : State) : (noteRetained s t).marking = t.marking := by unfold noteRetained; split <;> rfl
@[simp] theorem noteRetained_link_buffer (t : State) : (noteRetained s t).link.buffer = t.link.buffer := by
  unfold noteRetained; split <;> rfl
@[simp] theorem noteRetained_link_replies (t : State) : (noteRetained s t).link.replies = t.link.replies := by
  unfold noteRetained; split <;> rfl
@[simp] theorem noteRetained_link_notices (t : State) : (noteRetained s t).link.notices = t.link.notices := by
  unfold noteRetained; split <;> rfl
@[simp] theorem noteRetained_link_lost (t : State) : (noteRetained s t).link.lost = t.link.lost := by
  unfold noteRetained; split <;> rfl
@[simp] theorem noteRetained_link_fault (t : State) : (noteRetained s t).link.fault = t.link.fault := by
  unfold noteRetained; split <;> rfl
@[simp] theorem noteRetained_link_nonOk (t : State) : (noteRetained s t).link.nonOk = t.link.nonOk := by
  unfold noteRetained; split <;> rfl
@[simp] theorem noteRetained_link_discardLength (t : State) : (noteRetained s t).link.discardLength = t.link.discardLength := by
  unfold noteRetained; split <;> rfl
@[simp] theorem noteRetained_link_discardGap (t : State) : (noteRetained s t).link.discardGap = t.link.discardGap := by
  unfold noteRetained; split <;> rfl
@[simp] theorem noteRetained_link_discardCheck (t : State) : (noteRetained s t).link.discardCheck = t.link.discardCheck := by
  unfold noteRetained; split <;> rfl
@[simp] theorem noteRetained_link_discardOverrun (t : State) : (noteRetained s t).link.discardOverrun = t.link.discardOverrun := by
  unfold noteRetained; split <;> rfl
@[simp] theorem noteRetained_link_options (t : State) : (noteRetained s t).link.options = t.link.options := by
  unfold noteRetained; split <;> rfl
@[simp] theorem noteRetained_link_fastBaud (t : State) : (noteRetained s t).link.fastBaud = t.link.fastBaud := by
  unfold noteRetained; split <;> rfl
@[simp] theorem noteRetained_link_lastStart (t : State) : (noteRetained s t).link.lastStart = t.link.lastStart := by
  unfold noteRetained; split <;> rfl
@[simp] theorem noteRetained_link_restart (t : State) : (noteRetained s t).link.restart = t.link.restart := by
  unfold noteRetained; split <;> rfl
@[simp] theorem noteRetained_link_lastSent (t : State) : (noteRetained s t).link.lastSent = t.link.lastSent := by
  unfold noteRetained; split <;> rfl

/-- The retained tables do not hold the retention status, nor what waits in the receive buffer. -/
@[simp] theorem retainedOf_noteRetained (t : State) : retainedOf (noteRetained s t) = retainedOf t := by
  unfold noteRetained; split <;> rfl
@[simp] theorem retainedOf_popFrame : retainedOf (popFrame s) = retainedOf s := rfl

/-- Everything a request can do: it is taken, or it waits and nothing happens (R190). -/
theorem request_cases (i : Instr) (body : State → State) :
    (canTake i s = true ∧ request i s body = .next (noteRetained (popFrame s) (body (popFrame s)))) ∨
    (canTake i s = false ∧ request i s body = .next s) := by
  unfold request; by_cases h : canTake i s = true <;> simp [h]

/-- Everything an event can do: with main power its body is taken, without it nothing happens. -/
theorem event_cases (body : State → State) :
    (s.powered = true ∧ event s body = .next (noteRetained s (body s))) ∨
    (s.powered = false ∧ event s body = .next s) := by
  unfold event; by_cases h : s.powered = true <;> simp [h]

end Sys2Proof.Machine
end

