-- ==== Sys2Proof/Laws/StoreArbiter.lean ====
section
/-! SUPPORT. What the store arbiter, the receiver and the release of a sent reply's records can do, said once. -/

namespace Sys2Proof.Machine

variable (s : State)

/-! ## putReadJob -/

@[simp] theorem putReadJob_store_slots (j : Option ReadJob) : (putReadJob j s).store.slots = s.store.slots := rfl
@[simp] theorem putReadJob_store_queue (j : Option ReadJob) : (putReadJob j s).store.queue = s.store.queue := rfl
@[simp] theorem putReadJob_store_exporting (j : Option ReadJob) : (putReadJob j s).store.exporting = s.store.exporting := rfl
@[simp] theorem putReadJob_store_lastServed (j : Option ReadJob) : (putReadJob j s).store.lastServed = s.store.lastServed := rfl
@[simp] theorem putReadJob_store_readJob (j : Option ReadJob) : (putReadJob j s).store.readJob = j := rfl
@[simp] theorem slotOf_putReadJob (j : Option ReadJob) (n : Nat) : slotOf (putReadJob j s) n = slotOf s n := rfl

/-! ## serveReads: row accesses move the counts of rows read and the path served last alone (R129) -/

@[simp] theorem serveReads_pending (p : ReadPath) : (serveReads p s).pending = s.pending := rfl
@[simp] theorem serveReads_powered (p : ReadPath) : (serveReads p s).powered = s.powered := rfl
@[simp] theorem serveReads_fresh (p : ReadPath) : (serveReads p s).fresh = s.fresh := rfl
@[simp] theorem serveReads_link (p : ReadPath) : (serveReads p s).link = s.link := rfl
@[simp] theorem serveReads_seatMap (p : ReadPath) : (serveReads p s).seatMap = s.seatMap := rfl
@[simp] theorem serveReads_roster (p : ReadPath) : (serveReads p s).roster = s.roster := rfl
@[simp] theorem serveReads_timer (p : ReadPath) : (serveReads p s).timer = s.timer := rfl
@[simp] theorem serveReads_desk (p : ReadPath) : (serveReads p s).desk = s.desk := rfl
@[simp] theorem serveReads_boards (p : ReadPath) : (serveReads p s).boards = s.boards := rfl
@[simp] theorem serveReads_reader (p : ReadPath) : (serveReads p s).reader = s.reader := rfl
@[simp] theorem serveReads_coll (p : ReadPath) : (serveReads p s).coll = s.coll := rfl
@[simp] theorem serveReads_store_slots (p : ReadPath) : (serveReads p s).store.slots = s.store.slots := rfl
@[simp] theorem serveReads_store_queue (p : ReadPath) : (serveReads p s).store.queue = s.store.queue := rfl
@[simp] theorem serveReads_store_exporting (p : ReadPath) : (serveReads p s).store.exporting = s.store.exporting := rfl
@[simp] theorem serveReads_marking_keys (p : ReadPath) : (serveReads p s).marking.keys = s.marking.keys := rfl
@[simp] theorem serveReads_marking_remark (p : ReadPath) : (serveReads p s).marking.remark = s.marking.remark := rfl
@[simp] theorem slotOf_serveReads (p : ReadPath) (n : Nat) : slotOf (serveReads p s) n = slotOf s n := rfl
@[simp] theorem keyOf_serveReads (p : ReadPath) (k : Nat) : keyOf (serveReads p s) k = keyOf s k := rfl

/-- A waiting fill write is served first (R129). -/
@[simp] theorem nextAccess_fill (m e : Bool) (l : ReadPath) : nextAccess true m e l = some .fill := rfl

/-- Of marking and export, while both wait, the one not served last is served (R129). -/
@[simp] theorem nextAccess_both (l : ReadPath) : nextAccess false true true l = some (.read (otherPath l)) := rfl

/-- One access serves a row of marking, a row of export, or none where neither waits. -/
theorem serveOne_cases (w : Reads) :
    (0 < w.marking ∧ serveOne w = { w with marking := w.marking - 1, last := .marking }) ∨
    (0 < w.export_ ∧ serveOne w = { w with export_ := w.export_ - 1, last := .export_ }) ∨
    (w.marking = 0 ∧ w.export_ = 0 ∧ serveOne w = w) := by
  obtain ⟨m, e, l⟩ := w
  rcases m with _ | m <;> rcases e with _ | e <;> cases l <;> simp [serveOne, nextAccess, otherPath]

/-- No access adds a row to wait for. -/
theorem serveOne_le (w : Reads) : (serveOne w).marking ≤ w.marking ∧ (serveOne w).export_ ≤ w.export_ := by
  obtain ⟨-, h⟩ | ⟨-, h⟩ | ⟨-, -, h⟩ := serveOne_cases w <;> rw [h] <;> simp

/-- With a row still to read, an access takes one of the rows waited for. -/
theorem serveOne_total (w : Reads) (h : 0 < w.marking + w.export_) :
    (serveOne w).marking + (serveOne w).export_ + 1 = w.marking + w.export_ := by
  obtain ⟨hm, e⟩ | ⟨hm, e⟩ | ⟨hm, he, -⟩ := serveOne_cases w
  · rw [e]; simp only; omega
  · rw [e]; simp only; omega
  · omega

/-- With fuel for every row, the path waits for none in the end. -/
theorem serveUntil_waiting (p : ReadPath) (n : Nat) (w : Reads) (h : w.marking + w.export_ ≤ n) :
    (serveUntil p n w).waiting p = 0 := by
  induction n generalizing w with
  | zero => cases p <;> simp [serveUntil, Reads.waiting] <;> omega
  | succ n ih =>
    unfold serveUntil
    by_cases h0 : w.waiting p = 0
    · simp [h0]
    · simp only [h0, if_false]
      apply ih
      have hpos : 0 < w.marking + w.export_ := by cases p <;> simp [Reads.waiting] at h0 <;> omega
      have := serveOne_total w hpos
      omega

/-! ## The receiver (R187) -/

/-- Bytes may come in any pieces: the receiver examines one run after the other. -/
theorem takeBytes_append (xs ys : List Byte) (l : Link) : takeBytes (xs ++ ys) l = takeBytes ys (takeBytes xs l) := by
  simp [takeBytes]

@[simp] theorem takeBytes_nil (l : Link) : takeBytes [] l = l := rfl

@[simp] theorem takeBytes_cons (b : Byte) (bs : List Byte) (l : Link) : takeBytes (b :: bs) l = takeBytes bs (takeByte b l) :=
  rfl

/-- The receiver touches the assembly, the receive buffer and its four counts alone. -/
theorem takeByte_link (b : Byte) (l : Link) :
    takeByte b l = { l with
      assembly := (takeByte b l).assembly, buffer := (takeByte b l).buffer
      discardLength := (takeByte b l).discardLength, discardCheck := (takeByte b l).discardCheck
      discardOverrun := (takeByte b l).discardOverrun } := by
  unfold takeByte
  split
  · split <;> rfl
  · split
    · rfl
    · split <;> rfl
  · unfold assemble
    split
    · rfl
    · split
      · rfl
      · split
        · rfl
        · unfold placeFrame
          split
          · rfl
          · split
            · rfl
            · split <;> rfl

/-! ## What the start of a reply's sending releases (R15, R130, R145) -/

@[simp] theorem releaseRun_pending (r : Reply) : (releaseRun r s).pending = s.pending := by
  unfold releaseRun; split <;> [rfl; (split <;> [rfl; (split <;> rfl)])]
@[simp] theorem releaseRun_powered (r : Reply) : (releaseRun r s).powered = s.powered := by
  unfold releaseRun; split <;> [rfl; (split <;> [rfl; (split <;> rfl)])]
@[simp] theorem releaseRun_fresh (r : Reply) : (releaseRun r s).fresh = s.fresh := by
  unfold releaseRun; split <;> [rfl; (split <;> [rfl; (split <;> rfl)])]
@[simp] theorem releaseRun_link (r : Reply) : (releaseRun r s).link = s.link := by
  unfold releaseRun; split <;> [rfl; (split <;> [rfl; (split <;> rfl)])]
@[simp] theorem releaseRun_roster (r : Reply) : (releaseRun r s).roster = s.roster := by
  unfold releaseRun; split <;> [rfl; (split <;> [rfl; (split <;> rfl)])]
@[simp] theorem releaseRun_timer (r : Reply) : (releaseRun r s).timer = s.timer := by
  unfold releaseRun; split <;> [rfl; (split <;> [rfl; (split <;> rfl)])]
@[simp] theorem releaseRun_desk (r : Reply) : (releaseRun r s).desk = s.desk := by
  unfold releaseRun; split <;> [rfl; (split <;> [rfl; (split <;> rfl)])]
@[simp] theorem releaseRun_boards (r : Reply) : (releaseRun r s).boards = s.boards := by
  unfold releaseRun; split <;> [rfl; (split <;> [rfl; (split <;> rfl)])]
@[simp] theorem releaseRun_reader (r : Reply) : (releaseRun r s).reader = s.reader := by
  unfold releaseRun; split <;> [rfl; (split <;> [rfl; (split <;> rfl)])]
@[simp] theorem releaseRun_store (r : Reply) : (releaseRun r s).store = s.store := by
  unfold releaseRun; split <;> [rfl; (split <;> [rfl; (split <;> rfl)])]
@[simp] theorem releaseRun_marking (r : Reply) : (releaseRun r s).marking = s.marking := by
  unfold releaseRun; split <;> [rfl; (split <;> [rfl; (split <;> rfl)])]
@[simp] theorem releaseExport_pending (r : Reply) : (releaseExport r s).pending = s.pending := by
  unfold releaseExport; split <;> [rfl; (split <;> rfl)]
@[simp] theorem releaseExport_powered (r : Reply) : (releaseExport r s).powered = s.powered := by
  unfold releaseExport; split <;> [rfl; (split <;> rfl)]
@[simp] theorem releaseExport_fresh (r : Reply) : (releaseExport r s).fresh = s.fresh := by
  unfold releaseExport; split <;> [rfl; (split <;> rfl)]
@[simp] theorem releaseExport_link (r : Reply) : (releaseExport r s).link = s.link := by
  unfold releaseExport; split <;> [rfl; (split <;> rfl)]
@[simp] theorem releaseExport_seatMap (r : Reply) : (releaseExport r s).seatMap = s.seatMap := by
  unfold releaseExport; split <;> [rfl; (split <;> rfl)]
@[simp] theorem releaseExport_roster (r : Reply) : (releaseExport r s).roster = s.roster := by
  unfold releaseExport; split <;> [rfl; (split <;> rfl)]
@[simp] theorem releaseExport_timer (r : Reply) : (releaseExport r s).timer = s.timer := by
  unfold releaseExport; split <;> [rfl; (split <;> rfl)]
@[simp] theorem releaseExport_desk (r : Reply) : (releaseExport r s).desk = s.desk := by
  unfold releaseExport; split <;> [rfl; (split <;> rfl)]
@[simp] theorem releaseExport_boards (r : Reply) : (releaseExport r s).boards = s.boards := by
  unfold releaseExport; split <;> [rfl; (split <;> rfl)]
@[simp] theorem releaseExport_reader (r : Reply) : (releaseExport r s).reader = s.reader := by
  unfold releaseExport; split <;> [rfl; (split <;> rfl)]
@[simp] theorem releaseExport_coll (r : Reply) : (releaseExport r s).coll = s.coll := by
  unfold releaseExport; split <;> [rfl; (split <;> rfl)]
@[simp] theorem releaseExport_marking (r : Reply) : (releaseExport r s).marking = s.marking := by
  unfold releaseExport; split <;> [rfl; (split <;> rfl)]

end Sys2Proof.Machine
end

