-- ==== Sys2Proof/Tests/Slice0.lean ====
section
/-! SUPPORT. The model's own tests: what WellFormed refuses, worked figures of the manual, single steps, and for each
statement with hypotheses a state and operands that meet them (the `witness_` theorems, named after the statement). -/

namespace Sys2Proof.Tests

open Sys2Proof Sys2Proof.Machine

/-! ## WellFormed: an ill-formed command for each check -/

theorem test_wellFormed_refuses_tags :
    [Instr.identify 65536, .queryFault 65536, .restart 65536, .getSeatMap 65536, .getClock 65536, .holdHall 65536,
     .releaseHall 65536, .getBoards 65536, .getStations 65536].all (fun i => !i.wellFormed) = true := by decide

theorem test_wellFormed_refuses_link_and_seats :
    [Instr.setOption 0 256 0, .setOption 0 0 4294967296, .getOption 0 256, .defineSeats 0 2 [],
     .defineSeats 0 1 [⟨256, 0, 0, 0, 0, 1, 0, 0, 0⟩], .defineSeats 0 65 [⟨0, 0, 0, 0, 0, 1, 0, 0, 0⟩],
     .getSeats 0 65536 1, .getSeats 0 0 256, .setSeparation 0 256, .allocate 0 256 1 none 0,
     .allocate 0 0 256 none 0, .allocate 0 0 1 (some 65535) 0, .allocate 0 0 1 none 256,
     .assignSeat 0 4294967296 0, .assignSeat 0 1 65536, .unassign 0 4294967296, .moveCandidate 0 4294967296 none 0,
     .moveCandidate 0 1 (some 65535) 0, .moveCandidate 0 1 none 256].all (fun i => !i.wellFormed) = true := by decide

theorem test_wellFormed_refuses_roster :
    [Instr.addCandidates 0 1 [], .addCandidates 0 1 [⟨4294967296, 0, 0, 0, 0⟩], .addCandidates 0 1 [⟨1, 0, 256, 0, 0⟩],
     .setCandidate 0 4294967296 none none none none, .setCandidate 0 1 (some 255) none none none,
     .setCandidate 0 1 none (some 65535) none none, .setCandidate 0 1 none none (some 255) none,
     .setCandidate 0 1 none none none (some 255), .getCandidate 0 4294967296, .listCandidates 0 (some 255) 0 1,
     .listCandidates 0 none 65536 1, .listCandidates 0 none 0 256, .withdraw 0 4294967296,
     .leaveCandidate 0 4294967296, .markAbsent 0 4294967296].all (fun i => !i.wellFormed) = true := by decide

theorem test_wellFormed_refuses_timer :
    [Instr.setClock 0 256 0 0, .setClock 0 0 256 0, .setClock 0 0 0 256,
     .defineSession 0 256 ⟨['M', 'A', 'T', '1', '0', '1'], 1, 1, 0, 300, 0, 0, 0, 0, 0, 1, 0, none⟩,
     .defineSession 0 0 ⟨['M', 'A', 'T'], 1, 1, 0, 300, 0, 0, 0, 0, 0, 1, 0, none⟩,
     .defineSession 0 0 ⟨['M', 'A', 'T', '1', '0', '1'], 65536, 1, 0, 300, 0, 0, 0, 0, 0, 1, 0, none⟩,
     .defineSession 0 0 ⟨['M', 'A', 'T', '1', '0', '1'], 1, 1, 0, 300, 0, 0, 0, 0, 0, 1, 0, some 255⟩,
     .getSession 0 (some 255), .openSeating 0 256, .startSession 0 256, .abortSession 0 256, .pauseSession 0 256,
     .resumeSession 0 256, .extendSession 0 256 1, .extendSession 0 0 65536, .grantTime 0 4294967296 1,
     .grantTime 0 1 65536, .clearSession 0 256].all (fun i => !i.wellFormed) = true := by decide

theorem test_wellFormed_refuses_lines_and_boards :
    [Instr.configureLine 0 256 1 1 0, .configureLine 0 0 256 1 0, .configureLine 0 0 1 256 0, .configureLine 0 0 1 1 256,
     .getLine 0 256, .getDesks 0 256 1 1, .getDesks 0 0 65536 1, .getDesks 0 0 1 256, .lineTest 0 256 0 1,
     .lineTest 0 0 256 1, .lineTest 0 0 0 256, .configureBoards 0 256 none, .configureBoards 0 8 (some 65535),
     .setFocus 0 (some 255), .boardMessage 0 [Char.ofNat 256] 1, .boardMessage 0 ['A'] 65536, .boardBlank 0 256 0,
     .boardBlank 0 0 256].all (fun i => !i.wellFormed) = true := by decide

theorem test_wellFormed_refuses_reader_and_store :
    [Instr.configureStation 0 256 0 none, .configureStation 0 0 256 none, .configureStation 0 0 0 (some 65535),
     .stationOff 0 256, .wakeStation 0 256, .readSheet 0 256 0 1, .readSheet 0 0 65536 1, .readSheet 0 0 0 256,
     .listSlots 0 256 1, .listSlots 0 0 256, .discardSheet 0 256, .assignSheet 0 256 1,
     .assignSheet 0 0 4294967296].all (fun i => !i.wellFormed) = true := by decide

theorem test_wellFormed_refuses_collection_and_marking :
    [Instr.recordBooklet 0 4294967296 1 1, .recordBooklet 0 1 256 1, .recordBooklet 0 1 1 65536,
     .setDeclared 0 4294967296 1, .setDeclared 0 1 256, .openCollection 0 256, .collectSweep 0 256 0 1,
     .collectSweep 0 0 65536 1, .collectSweep 0 0 0 65536, .acceptException 0 4294967296, .closeBundle 0 256,
     .getBundle 0 256 1, .getBundle 0 0 65536, .getCollection 0 256 1, .getCollection 0 0 65536,
     .beginKey 0 256 1 0 0 none none, .beginKey 0 0 256 0 0 none none, .beginKey 0 0 1 256 0 none none,
     .beginKey 0 0 1 0 256 none none, .beginKey 0 0 1 0 0 (some 65535) none, .beginKey 0 0 1 0 0 none (some 65535),
     .keyPage 0 256 1 1 [⟨0, 1, 1, 0⟩], .keyPage 0 0 65536 1 [⟨0, 1, 1, 0⟩], .keyPage 0 0 1 2 [⟨0, 1, 1, 0⟩],
     .keyPage 0 0 1 1 [⟨256, 1, 1, 0⟩], .commitKey 0 256, .getKey 0 256 1 1, .getKey 0 0 65536 1, .getKey 0 0 1 256,
     .remark 0 256, .getResult 0 4294967296, .getResponses 0 4294967296 1 1, .getResponses 0 1 65536 1,
     .getResponses 0 1 1 256].all (fun i => !i.wellFormed) = true := by decide

theorem test_wellFormed_refuses_events :
    [Instr.sessionStart 8, .writingStart 8, .cutoffEvent 8, .personalEnd 4294967296,
     .sessionWarning 8, .restOver 4294967296, .sync 8, .marker 8, .poll 8, .spareSlot 8, .deskReply 8 [],
     .deskReply 0 [1], .pollNoReply 8, .lineCycleEnd 8, .transmitFault 8, .loopFrame 8 true, .echoRequest 8 true,
     .testCycleEnd 8, .stationRequest 4 true, .sheetHeader 4 [], .sheetHeader 0 [1], .sheetRow 0 [1],
     .coverRecord 0 [1], .readyChange 4 true, .stall 4, .warmDone 4, .idleTimeout 4, .feedWake 4, .stationFault 4].all (fun i => !i.wellFormed) = true := by
  decide

theorem test_wellFormed_accepts :
    [Instr.identify 65535, .defineSeats 0 1 [⟨0, 0, 0, 0, 0, 1, 0, 0, 0⟩], .addCandidates 0 17 [], .sync 7,
     .frameLengthDiscard 255, .deskReply 7 (List.replicate 12 0), .frameReceived [1, 0, 0] 0].all Instr.wellFormed = true := by decide

/-! ## The states the tests run on -/

/-- The session of chapter 10's MAT101 in a state, at its writing start 33,300 with cutoff taken (section 10.2). -/
def session (st : SessState) : Session :=
  { paper := ['M', 'A', 'T', '1', '0', '1'], form := 21330, state := st, start := 33300, reading := 0, writing := 5400
    late := 900, bar := 1800, lock := 300, warn1 := 600, warn2 := 0, grain := 1, sheetRequired := true, bundleSize := 5
    writingStart := some 33300
    pauseStart := if st = .paused then some 35000 else none
    target := if st = .paused then some .writing else none
    causes := { host := decide (st = .paused) } }

/-- Candidate 10, on seat 0 in the states that hold one. -/
def cand (st : CandState) : Candidate :=
  { number := 10, slot := 0, allowance := 0, restAllowance := 600, needsAccess := false, state := st
    stateSince := { at_ := 33300 }, seat := if (seatStateFor st).isSome then some 0 else none
    restStart := if st = .resting then some 35400 else none
    moveStart := if st = .moving then some 35000 else none }

/-- A hall at 10:00:00 with one session, one candidate, seat 0 in line with it, seat 1 free two columns on, and line 0
RUNNING with four desks, the first two REACHABLE. -/
def hall (ss : SessState) (cs : CandState) : State :=
  { State.reset with
    seatMap := { seats := [
      (0, { row := 0, column := 0, line := 0, address := 1
            state := (seatStateFor cs).getD .free, candidate := if (seatStateFor cs).isSome then some 10 else none }),
      (1, { row := 0, column := 2, line := 0, address := 2, state := .free })] }
    roster := [cand cs]
    timer := { clock := 36000, clockUnset := false, clockCopy := 36000, sessions := [(0, session ss)] }
    desk := { lines := [(0, { state := .running, desks := 4, spare := 2 })]
              desks := [(1, { reachable := true }), (2, { reachable := true })] } }

/-- What a command makes of a state. -/
def after (c : Instr) (s : State) : State :=
  match exec c s with
  | .next t => t
  | .fault _ => s
  | .refused _ => s

/-! ## Witnesses: the whole machine, the link, start-up and power -/

theorem witness_StepRunsTheFrontCommand_idle : State.reset.pending = [] := by decide

theorem witness_UnavailableCommandsWait :
    ({ State.reset with powered := false } : State).powered = false ∧
    (requestForm (.restart 65535)).isSome = true ∧
    (∃ r ∈ (after (.identify 0) State.reset).link.replies, r.long = false) ∧
    ({ State.reset with
      store := { readJob := some ⟨0, 47, 0, 64, .held, none, 210, 0⟩ } } : State).store.readJob.isSome = true ∧
    ({ State.reset with link := { State.reset.link with restart := .sending } } : State).link.restart ≠ .none_ ∧
    spells { kind := 1, tag := 7, code := 0x05, payload := [] } (.restart 65535) = false := by decide

theorem witness_RetentionFollowsTheTables :
    State.reset.powered = true ∧
    exec (.setSeparation 1 0) State.reset = .next (after (.setSeparation 1 0) State.reset) ∧
    (after (.setSeparation 1 0) State.reset).link.retention = .valid := by
  refine ⟨rfl, rfl, ?_⟩
  decide

theorem witness_LinkRequestsAnswer :
    canTake (.identify 0) State.reset = true ∧ canTake (.getOption 65535 3) State.reset = true ∧
    canTake (.queryFault 0) State.reset = true ∧
    ([(0, 0x1FFFD), (0, 0), (1, 1), (1, 255), (2, 0), (2, 30), (2, 3600), (3, 0), (3, 1)].all fun p =>
      canTake (.setOption 0 p.1 p.2) State.reset &&
        ((p.1 == 0 && decide (p.2 < 2 ^ 18) && !p.2.testBit 1 && !p.2.testBit 17) ||
         (p.1 == 1 && decide (1 ≤ p.2 ∧ p.2 ≤ 255)) || (p.1 == 2 && decide (p.2 = 0 ∨ 30 ≤ p.2 ∧ p.2 ≤ 3600)) ||
         (p.1 == 3 && decide (p.2 ≤ 1)))) = true ∧
    ([(4, 0), (0, 2 ^ 18), (0, 2), (0, 2 ^ 17), (1, 0), (1, 256), (2, 1), (2, 29), (2, 3601), (3, 2)].all fun p =>
      canTake (.setOption 0 p.1 p.2) State.reset &&
        (decide (3 < p.1) || (p.1 == 0 && (decide (2 ^ 18 ≤ p.2) || p.2.testBit 1 || p.2.testBit 17)) ||
         (p.1 == 1 && decide (p.2 = 0 ∨ 255 < p.2)) || (p.1 == 2 && decide (0 < p.2 ∧ p.2 < 30 ∨ 3600 < p.2)) ||
         (p.1 == 3 && decide (1 < p.2)))) = true := by decide

theorem witness_RestartIsTakenAndBegins :
    canTake (.restart 9) State.reset = true ∧
    (after (.transmitStart true) (after (.restart 9) State.reset)).link.restart = .sending ∧
    (after (.transmitStart true) (after (.restart 9) State.reset)).powered = true := by decide

/-- A state whose receive buffer holds `n` frames of an unknown code. -/
def buffered (n : Nat) : State :=
  { State.reset with link := { State.reset.link with buffer := List.replicate n ⟨1, 5, 0xFF, []⟩ } }

theorem witness_ReceiverJudgesFramesAndRequests :
    (List.replicate 1020 (0 : Byte)).length ≤ 1020 ∧ (buffered 3).link.buffer.length < 4 ∧
    4 ≤ (List.replicate 4 (0 : Byte)).length ∧ (List.replicate 1024 (0 : Byte)).length ≤ 1024 ∧
    4 ≤ (buffered 4).link.buffer.length ∧ crc16 [1, 0, 0, 1] ≠ 0 ∧ (3 < 4 ∨ 1024 < 3) ∧ (1025 < 4 ∨ 1024 < 1025) ∧
    (buffered 1).powered = true ∧ handOverOpen (buffered 1) = true ∧
    (buffered 1).link.buffer = ⟨1, 5, 0xFF, []⟩ :: [] ∧ frameFailure ⟨1, 5, 0xFF, []⟩ = some .unknownCode ∧
    frameFailure ⟨2, 5, 0x01, []⟩ = some .wrongKind ∧ frameFailure ⟨1, 5, 0x01, [0]⟩ = some .badLength := by
  refine ⟨le_of_eq List.length_replicate, by decide, by decide, le_of_eq List.length_replicate, by decide,
    by decide +kernel, ?_⟩
  decide

theorem witness_NoticesAreQueuedAndSent :
    (after (.identify 0) State.reset).link.restart ≠ .sending ∧
    (after (.identify 0) State.reset).link.replies ≠ [] ∧
    State.reset.link.replies = [] ∧ State.reset.link.notices ≠ [] ∧ State.reset.link.restart = .none_ ∧
    (after (.setOption 0 0 0x1FFFD) State.reset).link.options.noticeMask.getLsbD
      (noticeCode (.startMissed 0 [] 0)) = true ∧
    State.reset.link.options.noticeMask.getLsbD (noticeCode (.noticesLost 1 0)) = false ∧
    State.reset.link.notices.length < 64 ∧
    64 ≤ ({ State.reset with link := { State.reset.link with
      notices := List.replicate 64 (.noticesLost 1 0) } } : State).link.notices.length := by decide

theorem witness_ColdResetAndPowerFail : State.reset.powered = true := by decide

theorem witness_PowerReturnStartsTheBlocksUp :
    (after .powerFail State.reset).powered = false ∧ (after .powerFail State.reset).timer.sessions = [] ∧
    (after .powerFail State.reset).timer.failInstant.all
      (fun f => decide (f ≤ (after .powerFail State.reset).timer.clock)) = true := by decide

/-! ## Witnesses: the hall clock and the sessions -/

theorem witness_ClockIsReadSetAndCounted :
    canTake (.getClock 0) State.reset = true ∧ State.reset.powered = true ∧ State.reset.timer.clock < 86399 ∧
    (∀ k, k < 8 → (sessionOf (hall .seating .present) k).state ≠ .writing) ∧
    86399 ≤ ({ State.reset with timer := { State.reset.timer with clock := 86399 } } : State).timer.clock ∧
    canTake (.setClock 0 23 59 59) State.reset = true ∧
    (∀ k, k < 8 → ¬ isRunning (sessionOf State.reset k) ∧ (sessionOf State.reset k).state ≠ .seating) := by decide

/-- The fields of a session that starts at the last second of the day it may. -/
def entry (start : Nat) : SessionEntry :=
  ⟨['C', 'H', 'E', 'M', '2', '0'], 4040, start, 0, 300, 0, 0, 0, 0, 0, 1, 0, none⟩

theorem witness_SessionsAreDefinedAndStarted :
    canTake (.defineSession 0 1 (entry 36001)) (hall .writing .writing) = true ∧
    sessionInRange (entry 36001) = true ∧ (hall .writing .writing).timer.clockUnset = false ∧
    (sessionOf (hall .writing .writing) 1).state = .free ∧ (hall .writing .writing).timer.clock < (entry 36001).start ∧
    (∀ k, k < 8 → k ≠ 1 → (sessionOf (hall .writing .writing) k).state ≠ .free →
      (sessionOf (hall .writing .writing) k).form ≠ (entry 36001).form) ∧
    (∀ k, k < 8 → k ≠ 0 → (sessionOf (hall .defined .listed) k).state ≠ .free →
      (sessionOf (hall .defined .listed) k).form ≠ (entry 36001).form) := by decide

theorem witness_SessionsAreDefinedAndStarted_starts :
    canTake (.openSeating 0 0) (hall .defined .listed) = true ∧ (sessionOf (hall .defined .listed) 0).state = .defined ∧
    (sessionOf { (hall .defined .listed) with timer := { (hall .defined .listed).timer with
      sessions := [(0, { session .defined with startMissed := true })] } } 0).startMissed = true ∧
    canTake (.startSession 0 0) (hall .seating .assigned) = true ∧
    (sessionOf (hall .seating .assigned) 0).state = .seating ∧ (sessionOf (hall .seating .assigned) 0).reading = 0 ∧
    ¬((hall .seating .assigned).timer.clock = 86399 ∧ (hall .seating .assigned).timer.dayEndTaken = true) := by decide

/-- The hall with its session as given. -/
def withSession (x : Session) (cs : CandState) : State :=
  { hall x.state cs with timer := { (hall x.state cs).timer with sessions := [(0, x)] } }

theorem witness_SessionsAreDefinedAndStarted_instant :
    (withSession { session .seating with startDue := true, reading := 300 } .present).powered = true ∧
    (sessionOf (withSession { session .seating with startDue := true, reading := 300 } .present) 0).startDue = true ∧
    0 < (sessionOf (withSession { session .seating with startDue := true, reading := 300 } .present) 0).reading ∧
    (sessionOf (withSession { session .defined with startDue := true, reading := 300 } .listed) 0).startDue = true ∧
    (sessionOf (withSession { session .defined with start := 36001 } .listed) 0).start = 36001 := by decide

theorem rosterSound_hall (ss : SessState) (cs : CandState) : RosterSound (hall ss cs) := by
  refine ⟨by simp [hall], by simp [hall], ?_⟩
  intro c hc
  simp only [hall, List.mem_singleton] at hc
  subst hc
  simp [CandidateInRange, cand]

theorem seatsAgree_hall (ss : SessState) (cs : CandState) (h : (seatStateFor cs).isSome = true) :
    SeatsAgree (hall ss cs) := by
  refine ⟨?_, ?_⟩
  · intro c hc
    simp only [hall, List.mem_singleton] at hc
    subst hc
    cases cs <;> simp_all [CandidateAgrees, cand, hall, seatOf, tableRead, seatStateFor]
  · intro n
    by_cases h0 : n = 0
    · subst h0
      cases cs <;> simp_all [SeatAgrees, cand, hall, seatOf, tableRead, seatStateFor]
    · by_cases h1 : n = 1
      · subst h1
        simp [SeatAgrees, hall, seatOf, tableRead]
      · simp [SeatAgrees, hall, seatOf, tableRead, Ne.symm h0, Ne.symm h1]

theorem rosterSound_withSession (x : Session) (cs : CandState) : RosterSound (withSession x cs) :=
  rosterSound_hall x.state cs

theorem witness_WritingStartAndCutoff :
    (sessionOf (withSession { session .reading with reading := 2700 } .present) 0).state = .reading ∧
    (sessionOf (withSession { session .reading with reading := 2700 } .present) 0).start + 2700 +
      totalPause (sessionOf (withSession { session .reading with reading := 2700 } .present) 0) 36000 ≤ 36000 ∧
    (sessionOf (withSession { session .writing with late := 2700 } .assigned) 0).state = .writing ∧
    (sessionOf (withSession { session .writing with late := 2700 } .assigned) 0).cutoffTaken = none ∧
    33300 + 0 + totalPause (sessionOf (withSession { session .writing with late := 2700 } .assigned) 0) 36000 + 2700
      ≤ 36000 ∧
    (withSession { session .writing with late := 2700 } .assigned).powered = true ∧
    RosterSound (withSession { session .reading with reading := 2700 } .present) ∧
    RosterSound (withSession { session .writing with late := 2700 } .assigned) := by
  refine ⟨by decide, by decide, by decide, by decide, by decide, by decide, ?_, ?_⟩ <;>
    exact rosterSound_withSession _ _

/-- The hall at the last second of the day. -/
def lateHall (ss : SessState) (cs : CandState) : State :=
  { hall ss cs with timer := { (hall ss cs).timer with clock := 86399, clockCopy := 86399 } }

theorem witness_AbortAndDayEndSettleTheSession :
    canTake (.abortSession 0 0) (hall .paused .moving) = true ∧ RosterSound (hall .paused .moving) ∧
    isRunning (sessionOf (hall .paused .moving) 0) ∧ (sessionOf (hall .seating .assigned) 0).state = .seating ∧
    (lateHall .writing .resting).timer.clock = 86399 ∧ (lateHall .writing .resting).timer.dayEndTaken = false ∧
    (∀ c ∈ (lateHall .writing .resting).roster, c.slot < 8) ∧ (lateHall .writing .resting).powered = true ∧
    RosterSound (lateHall .writing .resting) := by
  refine ⟨by decide, rosterSound_hall _ _, by decide, by decide, by decide, by decide, by decide, by decide, ?_⟩
  exact rosterSound_hall .writing .resting

theorem witness_PauseAndResume :
    canTake (.pauseSession 0 0) (hall .writing .writing) = true ∧
    (sessionOf (hall .writing .writing) 0).state = .writing ∧
    (sessionOf (hall .reading .present) 0).state = .reading ∧
    (sessionOf (hall .paused .writing) 0).state = .paused ∧
    (sessionOf (hall .seating .present) 0).state = .seating ∧
    canTake (.resumeSession 0 0) (hall .paused .writing) = true ∧
    (sessionOf (withSession { session .paused with causes := { host := true, hall := true } } .writing) 0).causes.hall
      = true ∧
    (sessionOf (hall .paused .writing) 0).causes.hall = false ∧
    (sessionOf (hall .paused .writing) 0).causes.host = true ∧
    (sessionOf (hall .paused .writing) 0).pauseStart = some 35000 ∧
    (sessionOf (hall .paused .writing) 0).target = some .writing ∧
    (sessionOf (withSession { session .paused with target := some .reading } .present) 0).target = some .reading ∧
    RosterSound (hall .paused .writing) := by
  refine ⟨by decide, by decide, by decide, by decide, by decide, by decide, by decide, by decide, by decide, by decide,
    by decide, by decide, rosterSound_hall _ _⟩

/-- The hall with its two holds and its input as given. -/
def holding (input host level : Bool) : State :=
  { hall .writing .writing with timer := { (hall .writing .writing).timer with
      inputHold := input, hostHold := host, holdInput := level } }

theorem witness_HallHoldPausesTheHall :
    canTake (.holdHall 0) (hall .writing .writing) = true ∧ hallHoldActive (hall .writing .writing) = false ∧
    isRunning (sessionOf (hall .writing .writing) 0) ∧ hallHoldActive (holding false true false) = true ∧
    ¬ isRunning (sessionOf (hall .writing .writing) 7) ∧
    canTake (.releaseHall 0) (holding false true false) = true ∧ (holding false true false).timer.hostHold = true ∧
    (holding false true false).timer.inputHold = false ∧ (holding true false true).timer.inputHold = true ∧
    (holding false false true).powered = true ∧
    (holding true false true).timer.inputHold = (holding true false true).timer.holdInput ∧
    hallHoldActive (holding false false true) = false ∧ (holding false false true).timer.holdInput = true := by decide

theorem witness_ExtendAndGrant :
    canTake (.extendSession 0 0 1) (hall .writing .writing) = true ∧
    canTake (.extendSession 0 0 3600) (hall .writing .writing) = true ∧
    isRunning (sessionOf (hall .writing .writing) 0) ∧
    candidateOf (hall .writing .writing) 10 = some (cand .writing) ∧ cand .writing ∈ (hall .writing .writing).roster ∧
    timeRuns (cand .writing) = true ∧ (cand .writing).seat = some 0 ∧
    computedEnd { session .writing with extension := 1 } 36000 (cand .writing)
      ≠ computedEnd (session .writing) 36000 (cand .writing) ∧
    canTake (.grantTime 0 10 3600) (hall .writing .writing) = true ∧
    computedEnd (session .writing) 36000 { cand .writing with grant := 3600 }
      ≠ computedEnd (session .writing) 36000 (cand .writing) := by decide

theorem witness_EndsAndWarningsAreTaken :
    (withSession { session .writing with writing := 2700 } .resting).powered = true ∧
    candidateOf (withSession { session .writing with writing := 2700 } .writing) 10 = some (cand .writing) ∧
    timeRuns (cand .writing) = true ∧
    (sessionOf (withSession { session .writing with writing := 2700 } .writing) 0).state = .writing ∧
    computedEnd (sessionOf (withSession { session .writing with writing := 2700 } .writing) 0) 36000 (cand .writing)
      ≤ 36000 ∧
    (sessionOf (withSession { session .writing with writing := 3300, warn2 := 600 } .writing) 0).warn1Raised = false ∧
    baseEnd (sessionOf (withSession { session .writing with writing := 3300, warn2 := 600 } .writing) 0) 36000
      = 36000 + 600 := by decide

theorem witness_EndsAndWarningsAreTaken_agreed :
    RosterSound (withSession { session .writing with writing := 2700 } .writing) ∧
    SeatsAgree (withSession { session .writing with writing := 2700 } .writing) :=
  ⟨rosterSound_withSession _ _, seatsAgree_hall .writing .writing (by decide)⟩

theorem witness_ClearSessionFreesTheSlot :
    canTake (.clearSession 0 0) (hall .closed .collected) = true ∧ clearFailure (hall .closed .collected) 0 = none ∧
    canTake (.clearSession 0 0) (hall .defined .assigned) = true ∧ clearFailure (hall .defined .assigned) 0 = none ∧
    (cand .assigned).seat = some 0 ∧
    (∀ c ∈ (hall .defined .assigned).roster, c.slot = 0 → c.seat ≠ some 1) := by decide

theorem witness_PersonalEndFormula : 1 ≤ (session .writing).grain := by decide

theorem witness_BaseEndAndLongestEnd :
    (cand .writing).allowance = 0 ∧ (cand .writing).grant = 0 ∧ (cand .writing).restTaken = 0 ∧
    (cand .writing).moveCredit = 0 ∧ (cand .writing).state ≠ .moving ∧
    (∀ c ∈ (hall .writing .present).roster, c.slot = 0 → timeRuns c = false) ∧
    (∃ c ∈ (hall .writing .moving).roster, c.slot = 0 ∧ timeRuns c = true) := by decide

/-! ## Witnesses: seats, allocation and the roster -/

theorem witness_DefineSeatsTakesEntries :
    canTake (.defineSeats 0 1 [⟨0, 959, 39, 63, 7, 120, 1, 1, 1⟩]) (hall .writing .writing) = true ∧
    (hall .writing .writing).seatMap.alloc = none ∧ (seatOf (hall .writing .writing) 959).state = .undefined ∧
    (∀ p ∈ definedSeats (hall .writing .writing), p.1 ≠ 959 →
      ¬(p.2.row = 39 ∧ p.2.column = 63) ∧ ¬(p.2.line = 7 ∧ p.2.address = 120)) ∧
    (seatOf (hall .writing .writing) 1).state = .free ∧
    (∀ p ∈ definedSeats (hall .writing .writing), p.1 ≠ 1 →
      ¬(p.2.row = 0 ∧ p.2.column = 2) ∧ ¬(p.2.line = 0 ∧ p.2.address = 2)) ∧
    canTake (.defineSeats 0 1 [⟨1, 1, 0, 0, 0, 0, 0, 0, 0⟩]) (hall .writing .writing) = true ∧
    canTake (.defineSeats 0 64 []) (hall .writing .writing) = true := by decide

/-- The hall before its day with an allocation of two seats running, and its seats free or removed. -/
def allocating (seats : Bool) : State :=
  { hall .defined .listed with seatMap := { (hall .defined .listed).seatMap with
      seats := if seats then (hall .defined .listed).seatMap.seats else []
      alloc := some ⟨0, .rowMajor, 2, 0, none, 0, 9, false⟩ } }

theorem witness_SeparationModeIsSet :
    canTake (.setSeparation 0 2) (hall .defined .listed) = true ∧
    canTake (.setSeparation 0 255) (hall .defined .listed) = true ∧ canTake (.getSeatMap 0) (hall .defined .listed) = true ∧
    (allocating true).seatMap.alloc.isSome = true ∧ canTake (.setSeparation 0 0) (allocating true) = true ∧
    (∀ p ∈ definedSeats (hall .defined .listed), p.2.candidate = none) ∧
    (hall .defined .listed).seatMap.alloc = none ∧
    (∃ p ∈ definedSeats (hall .writing .writing), p.2.candidate.isSome = true) := by decide

theorem witness_AllocationRuns :
    canTake (.allocate 0 0 0 (some 1) 1) (hall .defined .listed) = true ∧
    (seatOf (hall .defined .listed) 1).state ≠ .undefined ∧
    (sessionOf (hall .defined .listed) 0).state = .defined ∧
    (∃ c ∈ (hall .defined .listed).roster, c.slot = 0 ∧ c.state = .listed) ∧
    (allocating true).powered = true ∧
    allocNext (allocating true) ⟨0, .rowMajor, 2, 0, none, 0, 9, false⟩ = some (0, cand .listed) ∧
    findSeat (allocating true) (cand .listed) .rowMajor (cursorOf (allocating true) 0) none = some 0 ∧
    (0 + 1 = 1 ∧ allocNext (allocating true) ⟨0, .rowMajor, 1, 0, none, 0, 9, false⟩ = some (0, cand .listed)) ∧
    allocNext (allocating false) ⟨0, .rowMajor, 2, 0, none, 0, 9, false⟩ = some (0, cand .listed) ∧
    findSeat (allocating false) (cand .listed) .rowMajor (cursorOf (allocating false) 0) none = none := by decide

theorem witness_ChosenSeatIsEligible :
    findSeat (hall .defined .listed) (cand .listed) .columnMajor (39, 63) none = some 0 ∧
    findSeat (hall .defined .listed) (cand .listed) .rowMajor (0, 1) none = some 1 := by decide

theorem witness_AssignAndUnassign :
    canTake (.assignSeat 0 10 1) (hall .writing .listed) = true ∧
    candidateOf (hall .writing .listed) 10 = some (cand .listed) ∧
    (seatOf (hall .writing .listed) 1).state ≠ .undefined ∧ (cand .listed).absencePending = false ∧
    isRunning (sessionOf (hall .writing .listed) 0) ∧ seatFailure (hall .writing .listed) 0 false none 1 = none ∧
    canTake (.unassign 0 10) (hall .seating .assigned) = true ∧
    candidateOf (hall .seating .assigned) 10 = some (cand .assigned) ∧ (cand .assigned).seat = some 0 := by decide

theorem witness_MoveChangesSeats :
    canTake (.moveCandidate 0 10 (some 1) 1) (hall .writing .writing) = true ∧
    candidateOf (hall .writing .writing) 10 = some (cand .writing) ∧ (cand .writing).seat = some 0 ∧
    (seatOf (hall .writing .writing) 1).state ≠ .undefined ∧
    seatFailure (hall .writing .writing) 0 false (some 0) 1 = none ∧
    autoSeat (hall .writing .resting) (cand .resting) = some 1 ∧
    autoSeat (hall .seating .present) (cand .present) = some 1 ∧
    autoSeat (hall .seating .assigned) (cand .assigned) = some 1 := by decide

theorem witness_CandidatesAreAddedAndSet :
    canTake (.addCandidates 0 1 [⟨99999999, 7, 100, 3600, 1⟩]) (hall .writing .writing) = true ∧
    candidateOf (hall .writing .writing) 99999999 = none ∧ candidateOf (hall .writing .writing) 1 = none ∧
    isRunning (sessionOf (hall .writing .writing) 0) ∧ (hall .writing .writing).roster.length < 960 ∧
    canTake (.addCandidates 0 16 []) (hall .writing .writing) = true ∧
    canTake (.setCandidate 0 10 (some 100) (some 3600) none none) (hall .writing .writing) = true ∧
    canTake (.setCandidate 0 10 (some 101) none (some 1) (some 0)) (hall .defined .listed) = true ∧
    candidateOf (hall .defined .listed) 10 = some (cand .listed) ∧
    (sessionOf (hall .defined .listed) 0).state = .defined := by decide

theorem witness_HostSettlesCandidates :
    canTake (.withdraw 0 10) (hall .seating .present) = true ∧
    candidateOf (hall .seating .present) 10 = some (cand .present) ∧
    canTake (.leaveCandidate 0 10) (hall .writing .moving) = true ∧
    candidateOf (hall .writing .moving) 10 = some (cand .moving) ∧ timeRuns (cand .moving) = true ∧
    canTake (.markAbsent 0 10)
      { hall .writing .assigned with roster := [{ cand .assigned with absencePending := true }] } = true ∧
    RosterSound (hall .writing .moving) ∧ SeatsAgree (hall .writing .moving) ∧
    RosterSound { hall .writing .assigned with roster := [{ cand .assigned with absencePending := true }] } := by
  refine ⟨by decide, by decide, by decide, by decide, by decide, by decide, rosterSound_hall _ _,
    seatsAgree_hall _ _ (by decide), by simp, by simp, ?_⟩
  intro c hc
  simp only [List.mem_singleton] at hc
  subst hc
  simp [CandidateInRange, cand]

theorem witness_RestIsCountedAndReported :
    seatAt (hall .writing .writing) 0 1 = some 0 ∧ (seatOf (hall .writing .writing) 0).candidate = some 10 ∧
    candidateOf (hall .writing .writing) 10 = some (cand .writing) ∧
    stampBeforeOpt 0 (cand .writing).seatSince = false ∧ (sessionOf (hall .writing .writing) 0).state = .writing ∧
    (sessionOf (hall .paused .writing) 0).state = .paused ∧ (cand .resting).restStart = some 35400 ∧
    candidateOf (hall .writing .resting) 10 = some (cand .resting) ∧ (hall .writing .resting).powered = true ∧
    (cand .resting).restAllowance ≤ runningRest (hall .writing .resting) (cand .resting) ∧
    (cand .resting).restOverRaised = false := by decide +kernel

/-! ## Witnesses: desk events and desk lines -/

theorem witness_SignInIsJudged :
    seatAt (hall .seating .assigned) 0 1 = some 0 ∧
    candidateOf (hall .seating .assigned) 10 = some (cand .assigned) ∧ (cand .assigned).seat = some 0 ∧
    judgedState (sessionOf (hall .seating .assigned) 0) = .seating ∧
    judgedState (sessionOf (hall .reading .assigned) 0) = .reading ∧
    candidateOf (hall .seating .assigned) 99999999 = none ∧
    seatAt (hall .seating .assigned) 0 2 = some 1 ∧ (cand .assigned).seat ≠ some 1 ∧
    candidateOf (hall .seating .withdrawn) 10 = some (cand .withdrawn) ∧
    candidateOf (hall .writing .writing) 10 = some (cand .writing) ∧ (cand .writing).seat = some 0 := by decide

theorem witness_LeaveCallAndDeclare :
    seatAt (hall .writing .writing) 0 1 = some 0 ∧ (seatOf (hall .writing .writing) 0).candidate = some 10 ∧
    candidateOf (hall .writing .writing) 10 = some (cand .writing) ∧
    stampBeforeOpt 36000 (cand .writing).seatSince = false ∧
    36000 = min (max 36000 ((cand .writing).lastEffective.getD 0)) (hall .writing .writing).timer.clock ∧
    (sessionOf (hall .writing .writing) 0).writingStart = some 33300 ∧
    33300 + (sessionOf (hall .writing .writing) 0).bar ≤ 36000 ∧
    36000 + (sessionOf (hall .writing .writing) 0).lock
      < computedEnd (sessionOf (hall .writing .writing) 0) 36000 (cand .writing) ∧
    (sessionOf (hall .paused .writing) 0).state = .paused ∧
    36000 < 33300 + (sessionOf (withSession { session .writing with bar := 2701 } .writing) 0).bar ∧
    computedEnd (sessionOf (withSession { session .writing with writing := 3000 } .writing) 0) 36000 (cand .writing)
      ≤ 36000 + 300 ∧
    candidateOf (hall .writing .finished) 10 = some (cand .finished) ∧
    stampBefore 33300 (cand .finished).stateSince = false := by decide

theorem witness_LeaveCallAndDeclare_sound : RosterSound (hall .writing .writing) := rosterSound_hall _ _

theorem witness_ConfigureLineRestartsTheLine :
    canTake (.configureLine 0 7 120 16 1) (hall .writing .writing) = true ∧
    canTake (.configureLine 0 0 1 0 0) (hall .writing .writing) = true ∧
    (lineOf (hall .writing .writing) 0).test = none := by decide

/-- The hall with line 0 as given, four desks polled. -/
def withLine (x : Line) : State :=
  { hall .writing .writing with desk := { (hall .writing .writing).desk with
      lines := [(0, { x with desks := 4, spare := 2 })] } }

/-- The line's test in a mode, with its last cycle to come. -/
def lastCycle (m : TestMode) : LineTest := { mode := m, requested := 1, tag := 3 }

theorem witness_ConfigureLineRestartsTheLine_test :
    canTake (.configureLine 0 0 120 3 0) (withLine { state := .test, test := some (lastCycle .local_) }) = true ∧
    (lineOf (withLine { state := .test, test := some (lastCycle .local_) }) 0).test = some (lastCycle .local_) := by
  decide

theorem witness_CycleSlotsSendAndDeliver :
    (withLine {}).powered = true ∧
    slotDone (lineOf (withLine { state := .running }) 0) = true ∧
    (lineOf (withLine { state := .running }) 0).position = 0 ∧
    inTest (lineOf (withLine { state := .test, test := some (lastCycle .echo), position := 1 }) 0) .echo = true ∧
    (lineOf (withLine { state := .lost, autoKeep := true, position := 1 }) 0).state = .lost ∧
    (5 ≤ (lineOf (withLine { state := .running, position := 5 }) 0).desks + 1 ∧
      2 ≤ (lineOf (withLine { state := .lost, position := 2, keepCycle := true }) 0).position) ∧
    servedDesk (withLine { state := .running, position := 6 }) 0 = none ∧
    (4 + 2 ≤ (lineOf (withLine { state := .running, position := 6 }) 0).position ∧
      (lineOf (withLine { state := .running, position := 7 }) 0).position ≤ 4 + 2 + 1) ∧
    servedDesk { withLine { state := .running, position := 6 } with desk := {
      lines := (withLine { state := .running, position := 6 }).desk.lines
      desks := [(1, { reachable := true, owedEnd := true }), (2, { reachable := true, owedSeat := true })] } } 0
      = some 1 := by decide

/-- A reply of desk 1: mark set, one event buffered, a CALL of 35,990; and one to END with its argument. -/
def callReply : List Byte := [1, 7, 1, 5, 0, 0, 0, 0, 0, 140, 150, 208]
def endReply : List Byte := [1, 3, 1, 7, 0, 0, 151, 44, 0, 0, 0, 49]

theorem witness_DeskReplyIsTaken :
    (lineOf (withLine { state := .running, awaited := some (.poll 1) }) 0).awaited = some (.poll 1) ∧
    (validReply (.poll 1) callReply).isSome = true ∧
    (validReply (.delivery 1 .end_) endReply).map (fun p => (p.1.buffered, p.1.displayOk, p.1.argument))
      = some (1, true, 38700) ∧
    (deskOf { withLine { state := .running } with desk := { (withLine { state := .running }).desk with
      desks := [(1, { reachable := true, displayOk := some true })] } } 0 1).displayOk = some true ∧
    validReply (.poll 1) [] = none ∧ validReply (.delivery 1 .end_) callReply = none := by decide

theorem witness_SilenceIsCounted :
    (lineOf (withLine { state := .lost, awaited := some (.poll 1) }) 0).awaited = some (.poll 1) ∧
    (deskOf (withLine { state := .lost, awaited := some (.poll 1) }) 0 1).missedPolls < 7 ∧
    (deskOf (withLine { state := .running, awaited := some (.poll 4) }) 0 4).reachable = false ∧
    (7 ≤ ({ reachable := true, missedPolls := 7 } : Desk).missedPolls) ∧
    slotDone (lineOf (withLine { state := .running, position := 8 }) 0) = true ∧
    (lineOf (withLine { state := .running, position := 8 }) 0).position = 2 + 4 + 2 ∧
    (lineOf (withLine { state := .running, position := 8, missedCycles := 1 }) 0).missedCycles < 2 ∧
    2 ≤ (lineOf (withLine { state := .running, position := 8, missedCycles := 2 }) 0).missedCycles ∧
    (lineOf (withLine { state := .running, position := 8, replySeen := true }) 0).replySeen = true := by decide

theorem witness_LineTestRunsAndEnds :
    lineInUse (withLine { state := .running }) 0 ≠ none ∧
    canTake (.lineTest 0 0 1 255) { withLine { state := .lost } with roster := [], seatMap := {} } = true ∧
    lineInUse { withLine { state := .lost } with roster := [], seatMap := {} } 0 = none ∧
    (lineOf (withLine { state := .test, test := some (lastCycle .local_), position := 7 }) 0).position < 2 + 4 + 2 ∧
    slotDone (lineOf (withLine { state := .test, test := some (lastCycle .echo), position := 5 }) 0) = true ∧
    (2 ≤ 5 ∧ (lineOf (withLine { state := .test, test := some (lastCycle .echo), position := 5 }) 0).position ≤ 4 + 1) ∧
    (lineOf (withLine { state := .test, test := some (lastCycle .echo), position := 8 }) 0).position = 2 + 4 + 2 ∧
    ({ lastCycle .echo with requested := 2 } : LineTest).run + 1 < 2 ∧
    (lastCycle .echo).requested ≤ (lastCycle .echo).run + 1 ∧
    inTest (lineOf (withLine { state := .test, test := some (lastCycle .echo) }) 0) .echo = true := by decide

/-! ## Witnesses: boards, stations, store -/

theorem witness_BoardRequestsWrite :
    canTake (.configureBoards 0 4 (some 8)) State.reset = true ∧
    canTake (.configureBoards 0 16 (some 60)) State.reset = true ∧
    canTake (.configureBoards 0 16 none) State.reset = true ∧ (8 ≤ (none : Option Nat).getD 10) ∧
    canTake (.setFocus 0 (some 0)) (hall .writing .writing) = true ∧
    (sessionOf (hall .writing .writing) 0).state ≠ .free ∧
    canTake (.boardMessage 0 (List.replicate 32 'Z') 600) State.reset = true ∧
    (List.replicate 32 'Z').length ≤ 32 ∧ (List.replicate 32 'Z').all messageChar = true ∧
    canTake (.boardBlank 0 0 1) (hall .writing .writing) = true := by decide

/-- Two sessions on a board of one session line, at its dwell. -/
def twoPages : State :=
  { State.reset with
    timer := { State.reset.timer with
      clockUnset := false, sessions := [(0, session .writing), (1, { session .seating with form := 1 })] }
    boards := { rows := 2, dwellCount := 200, message := some (['A'], 0) } }

theorem witness_BoardsShowTheHall :
    twoPages.powered = true ∧ twoPages.timer.clockUnset = false ∧ twoPages.timer.clock < 86400 ∧
    twoPages.boards.rows - 1 < (lineList twoPages).length ∧ twoPages.boards.pageStart < (lineList twoPages).length ∧
    20 * twoPages.boards.dwell ≤ twoPages.boards.dwellCount ∧ twoPages.boards.message = some (['A'], 0) ∧
    (lineList (hall .writing .writing)).length ≤ (hall .writing .writing).boards.rows - 1 := by decide

theorem witness_BoardsShowTheHall_attributes :
    (hall .writing .writing).boards.blankSet.contains 0 = false ∧
    ({ blankSet := [0] } : Boards).blankSet.contains 0 = true ∧
    (sessionOf (hall .paused .writing) 0).state = .paused ∧
    (baseEnd { session .writing with writing := 3300, warn2 := 600 } 36000 ≤ 36000 + 600) ∧
    (36000 + 599 < baseEnd { session .writing with writing := 3300, warn2 := 599 } 36000 ∧
      baseEnd { session .writing with writing := 3300, warn2 := 599 } 36000 ≤ 36000 + (session .writing).warn1) ∧
    36000 + (session .writing).warn1 < baseEnd { session .writing with writing := 3301 } 36000 ∧
    (sessionOf (hall .ended .finished) 0).state = .ended ∧ (sessionOf (hall .seating .assigned) 0).state = .seating :=
  by decide

/-- A reader port with station 3 as given, a transfer and a store. -/
def reading (x : Station) (v : Option Transfer) (slot : Slot) : State :=
  { State.reset with
    reader := { stations := [(3, x)], lastGranted := some 2, transfer := v }
    store := { slots := [(0, slot)] } }

theorem witness_StationsAreSwitched :
    canTake (.configureStation 0 3 1 (some 30)) State.reset = true ∧
    canTake (.configureStation 0 0 0 (some 3600)) State.reset = true ∧
    canTake (.configureStation 0 0 0 (some 0)) State.reset = true ∧
    (stationOf State.reset 3).state ≠ .transferring ∧ canTake (.stationOff 0 3) State.reset = true ∧
    (stationOf State.reset 3).state = .off ∧ canTake (.wakeStation 0 3) (reading { state := .idle } none {}) = true ∧
    (stationOf (reading { state := .idle } none {}) 3).state = .idle ∧
    (stationOf (reading { state := .idle } none {}) 3).standby ≠ 0 ∧
    (stationOf (reading { state := .idle } none {}) 3).request = false ∧
    (stationOf (reading { state := .warming } none {}) 3).state = .warming ∧
    (stationOf (reading { state := .standby } none {}) 3).state = .standby ∧
    (stationOf (reading { state := .fault } none {}) 3).state = .fault := by decide

theorem witness_PortGrantsInTurn :
    (reading { state := .idle, request := true } none {}).reader.transfer = none ∧
    (grantOrder (some 2)).find? (grantable (reading { state := .idle, request := true } none {})) = some 3 ∧
    (stationOf (reading { state := .idle, request := true } none {}) 3).kind = .sheet ∧
    (grantOrder (some 2)).find? (grantable (reading { state := .idle, request := true, kind := .cover } none {}))
      = some 3 ∧
    (∀ k, k < 4 → grantable (reading { state := .idle } none {}) k = false) ∧
    (State.reset.reader.lastGranted.all fun k => decide (k < 4)) = true ∧
    ((some 3 : Option Nat).all fun k => decide (k < 4)) = true := by decide

/-- A sheet's transfer on station 3 into slot 0. -/
def sheetTransfer (headerTaken : Bool) : Transfer :=
  { station := 3, slot := some 0, headerTaken := headerTaken, held := none }

/-- Station 3 with a transfer as given, its ready line low. -/
def lowReady (transfer : Transfer) (station : Station) : State :=
  { reading station (some transfer) {} with reader := { (reading station (some transfer) {}).reader with
      readyLow := [(3, true)] } }

theorem witness_TransfersComplete :
    (reading { state := .transferring } (some (sheetTransfer false)) {}).powered = true ∧
    (reading { state := .transferring } (some (sheetTransfer false)) {}).reader.transfer
      = some (sheetTransfer false) ∧
    (11 ≤ (0 : Byte).toNat * 256 + (11 : Byte).toNat ∧ (0 : Byte).toNat * 256 + (210 : Byte).toNat ≤ 210) ∧
    (List.replicate 8 (7 : Byte)).length = 8 ∧
    (slotOf (reading {} none { state := .filling, rowCount := some 11, rowsFilled := 9 }) 0).rowsFilled + 1 < 11 ∧
    11 ≤ (slotOf (reading {} none { state := .filling, rowCount := some 11, rowsFilled := 10 }) 0).rowsFilled + 1 ∧
    readyIsLow (reading { state := .transferring } (some (sheetTransfer true)) {}) 3 = false := by decide

theorem witness_TransfersBreakOffAndWait :
    (reading { state := .transferring } (some (sheetTransfer true)) {}).reader.transfer
      = some (sheetTransfer true) ∧
    (([] : List Byte).length ≠ 9 ∨ sum8 [] ≠ 0) ∧ sum8 [1, 0, 0, 0, 0, 0, 0, 0, 0] ≠ 0 ∧
    (0 : Byte).toNat * 256 + (10 : Byte).toNat < 11 ∧ 210 < (0 : Byte).toNat * 256 + (211 : Byte).toNat ∧
    readyIsLow (lowReady (sheetTransfer true) { state := .transferring }) 3 = true ∧ (sheetTransfer true).held = none ∧
    (stationOf (lowReady (sheetTransfer true) { state := .transferring }) 3).state = .transferring ∧
    ({ sheetTransfer true with held := some [1] } : Transfer).held = some [1] ∧
    ({ station := 3, slot := none } : Transfer).slot = none := by decide

theorem witness_StoreRequestsAnswer :
    canTake (.readSheet 0 0 209 64) (reading {} none { state := .filled, rowCount := some 210 }) = true ∧
    (slotOf (reading {} none { state := .filled, rowCount := some 210 }) 0).rowCount = some 210 ∧
    (slotOf (reading {} none { state := .filled, rowCount := some 210 }) 0).state = .filled ∧
    (after (.readSheet 0 0 209 64) (reading {} none { state := .filled, rowCount := some 210 })).store.readJob.isSome
      = true ∧
    canTake (.discardSheet 0 0) (reading {} none { state := .filled, rowCount := some 210 }) = true ∧
    canTake (.assignSheet 0 0 99999999) (reading {} none { state := .held }) = true ∧
    (slotOf (reading {} none { state := .held }) 0).state = .held ∧
    (slotOf (reading {} none { state := .held, receipt := some 1 }) 0).receipt = some 1 := by decide

/-! ## Witnesses: collection and marking -/

/-- The hall with covers waiting, a bundle and a sweep as given, and its candidate's script. -/
def collecting (ss : SessState) (c : Candidate) (covers : List CoverEntry) (sweep : Option Sweep) : State :=
  { hall ss c.state with
    roster := [c]
    coll := { covers := covers, sweep := sweep
              bundles := [(255, some { slot := 0, number := 256, isOpen := true, entries := [4], opened := 1 })]
              openBundle := [(0, some 255)] } }

/-- A cover of candidate 10 for the session's form. -/
def cover (ordinal : Nat) : CoverEntry := ⟨10, ordinal, 21330, some 3, 36000⟩

theorem witness_CoversAreQueuedAndJudged :
    canTake (.recordBooklet 0 99999999 9 65535) (collecting .ended (cand .finished) (List.replicate 31 (cover 1)) none)
      = true ∧
    (collecting .ended (cand .finished) (List.replicate 31 (cover 1)) none).coll.covers.length < 32 ∧
    coverTransfer (collecting .ended (cand .finished) [] none) = false ∧
    canTake (.setDeclared 0 10 9) (collecting .ended (cand .finished) [] none) = true ∧
    candidateOf (collecting .ended (cand .finished) [] none) 10 = some (cand .finished) ∧
    (collecting .ended (cand .finished) [cover 9] none).coll.covers = cover 9 :: [] ∧
    sessionOfForm (collecting .ended (cand .finished) [cover 9] none) 21330 = some 0 ∧
    9 ∉ (cand .finished).covers ∧ (cand .assigned).state = .assigned ∧ (cand .absent).state = .absent ∧
    (0 = 0 ∨ 9 < 0) ∧ 9 < 10 ∧ 9 ∈ ({ cand .left with covers := [9] } : Candidate).covers ∧
    1 ∉ ({ cand .collected with covers := [9] } : Candidate).covers := by decide

theorem witness_CollectionOpensAndAccepts :
    canTake (.openCollection 0 0) (hall .ended .finished) = true ∧ (sessionOf (hall .ended .finished) 0).state = .ended ∧
    (sessionOf (hall .void_ .left) 0).state = .void_ ∧
    canTake (.collectSweep 0 0 959 1) (hall .collecting .finished) = true ∧
    (sessionOf (hall .collecting .finished) 0).state = .collecting ∧ (hall .collecting .finished).coll.sweep = none ∧
    canTake (.closeBundle 0 0) (collecting .collecting (cand .finished) [] none) = true ∧
    openBundleOf (collecting .collecting (cand .finished) [] none) 0 = some 255 ∧
    (bundleOf (collecting .collecting (cand .finished) [] none) 255).isSome = true ∧
    canTake (.acceptException 0 10) (collecting .collecting (cand .left) [] none) = true ∧
    candidateOf (collecting .collecting (cand .left) [] none) 10 = some (cand .left) ∧
    (headerFor (collecting .collecting (cand .left) [] none) 0).isSome = true := by decide

/-- A sweep from seat 0 over a number of seats. -/
def sweeping (count : Nat) : Sweep := { slot := 0, first := 0, count := count, next := 0, tag := 5 }

/-- A whole script of one booklet. -/
def whole : Candidate := { cand .finished with declared := some 1, covers := [1], sheetReceived := true }

theorem witness_ScriptsAreCheckedAndCollected :
    seatToCheck (collecting .collecting whole [] (some (sweeping 1))) (sweeping 1) = some whole ∧
    scriptFailure (sessionOf (collecting .collecting whole [] (some (sweeping 1))) 0) whole = none ∧
    headerFor (collecting .collecting whole [] (some (sweeping 1))) 0 = some 255 ∧
    (sweeping 1).count ≤ (sweeping 1).swept + 1 ∧ (sweeping 2).swept + 1 < (sweeping 2).count ∧
    seatToCheck (collecting .collecting (cand .collected) [] (some (sweeping 2))) (sweeping 2) = none ∧
    scriptFailure (session .collecting) (cand .finished) = some (.undeclared, none) ∧
    scriptFailure (session .collecting) { whole with declared := some 9 } = some (.missing, some 2) ∧
    scriptFailure (session .collecting) { whole with covers := [1, 9] } = some (.extra, some 9) ∧
    scriptFailure (session .collecting) { whole with sheetReceived := false } = some (.noSheet, none) := by decide

theorem witness_ScriptsAreCheckedAndCollected_sound :
    RosterSound (collecting .collecting whole [] (some (sweeping 1))) := by
  refine ⟨by simp [collecting], by simp [collecting], ?_⟩
  intro c hc
  simp only [collecting, List.mem_singleton] at hc
  subst hc
  simp [CandidateInRange, cand, whole]

/-- Two questions: one SINGLE, one MULTI with options A and C, each of weight 4 and penalty 1. -/
def twoQuestions : Table (Option Question) :=
  [(1, some ⟨.single, 0x02, 4, 1⟩), (2, some ⟨.multi, 0x05, 4, 1⟩)]

/-- The hall with the key and the marking of its session as given. -/
def marking (k : Key) (c : Candidate) (slot : Slot) (r : Option InFlight) (v : Option Remark) : State :=
  { hall .ended c.state with
    roster := [c]
    store := { slots := [(0, slot)], queue := if slot.state = .filled then [0] else [] }
    marking := { keys := [(0, k)], inFlight := r, remark := v } }

/-- The session's key in a state, and a response record of two entries. -/
def key (st : KeyState) : Key :=
  { state := st, form := some 21330, questions := some 2, generation := 255, entries := twoQuestions }

def responses : List Response := [⟨0x02, false, .correct, 4⟩, ⟨0x00, true, .blank, 0⟩]

theorem witness_KeysAreLoaded :
    canTake (.beginKey 0 0 200 1 1 (some 255) (some 254)) (marking {} (cand .finished) {} none none) = true ∧
    canTake (.beginKey 0 0 1 0 0 (some 2) (some 1)) (marking {} (cand .finished) {} none none) = true ∧
    (sessionOf (marking {} (cand .finished) {} none none) 0).state ≠ .free ∧
    formMarking (marking {} (cand .finished) {} none none) 21330 = false ∧
    remarkOf (marking {} (cand .finished) {} none none) 0 = false ∧
    canTake (.keyPage 0 0 1 2 [⟨0, 0x10, 40, 40⟩, ⟨2, 0x00, 1, 0⟩]) (marking (key .loading) (cand .finished) {} none none)
      = true ∧
    (∀ e ∈ [(⟨0, 0x10, 40, 40⟩ : QuestionEntry), ⟨2, 0x00, 1, 0⟩], (entryQuestion e).isSome = true) ∧
    canTake (.commitKey 0 0) (marking (key .loading) (cand .finished) {} none none) = true ∧
    (keyOf (marking (key .loading) (cand .finished) {} none none) 0).state = .loading ∧
    lowestUndefined (keyOf (marking (key .loading) (cand .finished) {} none none) 0) = none := by decide

theorem witness_QuestionScoresByTheTable :
    questionOf (key .ready) 1 = some ⟨.single, 0x02, 4, 1⟩ ∧ (options 0x02).length = 1 ∧ (0x02 : Byte) ≠ 0x01 ∧ 2 ≤ (options 0x03).length ∧ (0x05 : Byte) ≠ 0 := by decide

theorem witness_TotalsStayInBounds :
    (key .ready).questions = some 2 ∧
    ((questionNumbers (key .ready)).all fun q =>
      (questionOf (key .ready) q).all fun x => decide (x.weight ≤ 40 ∧ x.penalty ≤ 40)) = true := by decide

theorem witness_TotalsStayInBounds_every :
    ∀ q x, questionOf (key .ready) q = some x → x.weight ≤ 40 ∧ x.penalty ≤ 40 := by
  intro q x h
  by_cases h1 : q = 1
  · subst h1
    simp [questionOf, key, twoQuestions, tableRead] at h
    subst h
    decide
  · by_cases h2 : q = 2
    · subst h2
      simp [questionOf, key, twoQuestions, tableRead] at h
      subst h
      decide
    · simp [questionOf, key, twoQuestions, tableRead, Ne.symm h1, Ne.symm h2] at h

/-- A sheet in marking for candidate 10, assigned, and its record in flight. -/
def sheet (st : SlotState) : Slot :=
  { state := st, form := some 21330, rowCount := some 12, rowsFilled := 12, assigned := some 10 }

def flight (p : Phase) : InFlight :=
  { slot := 0, phase := p, identity := some 10, session := some 0, generation := some 255 }

theorem witness_SheetsAreIdentifiedAndScored :
    (marking (key .ready) (cand .left) (sheet .filled) none none).marking.inFlight = none ∧
    (marking (key .ready) (cand .left) (sheet .filled) none none).store.queue = 0 :: [] ∧
    (slotOf (marking (key .ready) (cand .left) (sheet .marking) (some (flight .identifying)) none) 0).form = some 21330 ∧
    sessionOfForm (marking (key .ready) (cand .left) (sheet .marking) (some (flight .identifying)) none) 21330 = some 0 ∧
    (sheet .marking).assigned = some 10 ∧
    candidateOf (marking (key .ready) (cand .left) (sheet .marking) (some (flight .identifying)) none) 10
      = some (cand .left) ∧
    (cand .left).sheetReceived = false ∧ (sheet .marking).rowCount = some 12 ∧ 10 + 2 ≤ 12 ∧
    ((slotOf (marking (key .ready) (cand .left) { sheet .marking with form := some 1 } (some (flight .identifying)) none)
        0).form.bind (sessionOfForm (marking (key .ready) (cand .left) { sheet .marking with form := some 1 }
          (some (flight .identifying)) none))) = none ∧
    (flight .scoring).phase = .scoring ∧ (flight .scoring).identity = some 10 ∧ (flight .scoring).session = some 0 := by
  decide

/-- A remark of the session. -/
def remarking (position : Nat) : Remark := { slot := 0, generation := 255, position := position, tag := 6 }

theorem witness_RemarkRescores :
    canTake (.remark 0 0) (marking (key .ready) { cand .finished with responses := some responses } {} none none) = true ∧
    (sessionOf (marking (key .ready) (cand .finished) {} none none) 0).state ≠ .free ∧
    (keyOf (marking (key .ready) (cand .finished) {} none none) 0).state = .ready ∧
    (∃ c ∈ (marking (key .ready) { cand .finished with responses := some responses } {} none none).roster,
      c.slot = 0 ∧ c.responses.isSome = true) ∧
    (∀ c ∈ (marking (key .ready) (cand .finished) {} none none).roster, c.slot = 0 → c.responses = none) ∧
    remarkNext (marking (key .ready) { cand .finished with responses := some responses } {} none (some (remarking 0)))
      (remarking 0) = some (0, { cand .finished with responses := some responses }) ∧
    2 ≤ responses.length ∧
    remarkNext (marking (key .ready) (cand .finished) {} none (some (remarking 1))) (remarking 1) = none := by decide

theorem witness_ReadsAnswerAndChangeNothing :
    canTake (.getSeats 0 959 64) (hall .writing .writing) = true ∧ canTake (.getSeatMap 0) (hall .writing .writing) = true ∧
    canTake (.getCandidate 0 10) (hall .writing .writing) = true ∧
    canTake (.listCandidates 0 (some 7) 65535 64) (hall .writing .writing) = true ∧
    canTake (.getSession 0 (some 7)) (hall .writing .writing) = true ∧
    canTake (.getLine 0 7) (hall .writing .writing) = true ∧
    canTake (.getDesks 0 7 120 64) (hall .writing .writing) = true ∧
    canTake (.getBoards 0) (hall .writing .writing) = true ∧ canTake (.getStations 0) (hall .writing .writing) = true ∧
    canTake (.listSlots 0 47 24) (hall .writing .writing) = true ∧
    canTake (.getBundle 0 0 256) (collecting .collecting whole [] none) = true ∧
    canTake (.getCollection 0 7 256) (hall .writing .writing) = true ∧
    canTake (.getKey 0 7 0 25) (hall .writing .writing) = true ∧
    canTake (.getResult 0 10) (hall .ended .finished) = true ∧
    canTake (.getResponses 0 10 2 50)
      (marking (key .ready) { cand .finished with responses := some responses } {} none none) = true ∧
    candidateOf (hall .ended .finished) 10 = some (cand .finished) ∧ responses.length = 2 := by decide

theorem witness_ReadsAnswerAndChangeNothing_bundle :
    (bundleNumbered (collecting .collecting whole [] none) 0 256).isSome = true := by decide +kernel

/-! ## Witnesses of further clauses: the link, start-up, the sessions -/

/-- Long replies of a code wait unsent, so many of them. -/
def unsent (code n : Nat) (s : State) : State :=
  { s with link := { s.link with replies := List.replicate n (longReply 0 code []) } }

theorem witness_UnavailableCommandsWait_busy :
    (∀ r ∈ (unsent 0x84 12 State.reset).link.replies, r.long = true) ∧
    (canTake (.allocate 1 0 1 none 0) (allocating true) = true ∧ (sessionOf (allocating true) 0).state = .defined ∧
      (allocating true).seatMap.alloc.isSome = true) ∧
    (canTake (.collectSweep 1 0 0 960) (collecting .collecting whole [] (some (sweeping 1))) = true ∧
      (sessionOf (collecting .collecting whole [] (some (sweeping 1))) 0).state = .collecting ∧
      (collecting .collecting whole [] (some (sweeping 1))).coll.sweep.isSome = true) ∧
    (canTake (.remark 1 0) (marking (key .ready) (cand .finished) {} none (some { slot := 0, generation := 255, tag := 6 }))
      = true ∧
      (keyOf (marking (key .ready) (cand .finished) {} none (some { slot := 0, generation := 255, tag := 6 })) 0).state
        = .ready ∧
      (marking (key .ready) (cand .finished) {} none
        (some { slot := 0, generation := 255, tag := 6 })).marking.remark.isSome = true) ∧
    (canTake (.lineTest 1 0 0 1) (withLine { state := .test, test := some (lastCycle .echo) }) = true ∧
      (lineOf (withLine { state := .test, test := some (lastCycle .echo) }) 0).state = .test) := by decide

theorem witness_RestartIsTakenAndBegins_lines : ∀ l, (lineOf State.reset l).desks ≤ 120 := by
  intro l
  simp [State.reset, lineOf, tableRead]

/-- A part whose receiver holds some bytes of a frame. -/
def assembling (bytes : List Byte) : State := { State.reset with link := { State.reset.link with assembly := bytes } }

theorem witness_ReceiverJudgesFramesAndRequests_receiver :
    (assembling []).powered = true ∧ (assembling []).link.assembly = [] ∧
    (4 : Byte).toNat * 256 + (0 : Byte).toNat = 1020 + 4 ∧ (0 : Byte).toNat * 256 + (4 : Byte).toNat = 0 + 4 ∧
    (∀ b ∈ [(0x36 : Byte)] ++ bigEndian 2 (0x36C8#16).toNat, b ≠ 0xC9) ∧
    (assembling [0xC9]).link.assembly = [0xC9] ∧ 2 ≤ (assembling [0xC9, 0x36]).link.assembly.length ∧
    (assembling [0xC9]).link.assembly.length < 2 ∧ (assembling [0xC9, 0x36, 4]).link.assembly = [0xC9, 0x36, 4] ∧
    ((0 : Byte).toNat * 256 + (3 : Byte).toNat < 4 ∧ 1024 < (4 : Byte).toNat * 256 + (1 : Byte).toNat) ∧
    (4 ≤ (0 : Byte).toNat * 256 + (4 : Byte).toNat ∧ (4 : Byte).toNat * 256 + (0 : Byte).toNat ≤ 1024) ∧
    (assembling [0xC9, 0x36]).link.assembly.length ≠ 3 := by decide

/-- Power has failed at a second, and the clock stands at another. -/
def outage (fail clock : Nat) (s : State) : State :=
  { s with powered := false, timer := { s.timer with clock := clock, clockCopy := clock, failInstant := some fail } }

theorem rosterSound_outage (fail clock : Nat) (ss : SessState) (cs : CandState) : RosterSound (outage fail clock (hall ss cs)) :=
  rosterSound_hall ss cs

theorem witness_PowerReturnStartsTheBlocksUp_sessions :
    (outage 33299 33300 (hall .writing .writing)).powered = false ∧
    (outage 33299 33300 (hall .writing .writing)).timer.failInstant = some 33299 ∧ 33299 ≤ 33300 ∧ 33300 < 86399 ∧
    (33299 < (session .seating).start ∧ (session .seating).start ≤ 33300) ∧
    RosterSound (outage 33299 33300 (hall .seating .present)) ∧
    (∀ k, k < 8 → (sessionOf (outage 33299 33300 (hall .paused .writing)) k).state ≠ .seating ∧
      (sessionOf (outage 33299 33300 (hall .paused .writing)) k).state ≠ .defined) ∧
    isRunning (sessionOf (outage 86399 0 (hall .writing .writing)) 0) ∧
    (outage 86399 0 (hall .writing .writing)).timer.clock < 86399 ∧ RosterSound (outage 86399 0 (hall .writing .writing)) :=
  ⟨by decide, by decide, by decide, by decide, by decide, rosterSound_outage .., by decide, by decide, by decide,
    rosterSound_outage ..⟩

theorem witness_PowerReturnStartsTheBlocksUp_transfer :
    (stationOf (reading { state := .idle } none {}) 3).state ≠ .transferring ∧
    (stationOf (reading { state := .transferring } none { state := .filling, source := some 3 }) 3).state = .transferring ∧
    (slotOf (reading { state := .transferring } none { state := .filling, source := some 3 }) 0).state = .filling ∧
    (slotOf (reading { state := .transferring } none { state := .filling, source := some 3 }) 0).source = some 3 := by decide

theorem witness_ClockIsReadSetAndCounted_end :
    baseEnd { session .writing with writing := 2701, cutoffTaken := some 34200 } 36001 ≤ 36001 ∧
    ({ session .writing with writing := 2701, cutoffTaken := some 34200 } : Session).cutoffTaken.isSome = true ∧
    (∀ c ∈ (withSession { session .writing with writing := 2701, cutoffTaken := some 34200 } .assigned).roster, c.slot = 0 →
      timeRuns c = false ∧ c.absencePending = false) ∧
    36001 < baseEnd { session .writing with writing := 2702, cutoffTaken := some 34200 } 36001 ∧
    (withSession { session .writing with writing := 2701, cutoffTaken := some 34200 } .assigned).timer.clock < 86399 ∧
    RosterSound (withSession { session .writing with writing := 2701, cutoffTaken := some 34200 } .assigned) :=
  ⟨by decide, by decide, by decide, by decide, by decide, rosterSound_withSession ..⟩

theorem witness_PauseAndResume_others :
    canTake (.resumeSession 0 0) (hall .reading .present) = true ∧ canTake (.resumeSession 0 0) (hall .writing .writing) = true ∧
    ((sessionOf (hall .paused .writing) 0).pauseLog.length < 64 ∧ 35000 < (hall .paused .writing).timer.clock) ∧
    36000 ≤ ({ session .paused with pauseStart := some 36000 } : Session).pauseStart.getD 0 ∧
    (List.replicate 64 (1, 2)) = (1, 2) :: List.replicate 63 (1, 2) ∧ 63 ≤ (List.replicate 63 (1, 2)).length ∧
    (session .paused).causes.hall = false ∧ (session .paused).causes.host = true ∧
    ({ closePause (session .paused) 36000 with causes := {}, target := none, state := .writing } : Session).warn2 = 0 ∧
    36000 < baseEnd { closePause (session .paused) 36000 with causes := {}, target := none, state := .writing } 36000 ∧
    36000 + 600 < baseEnd { closePause (session .paused) 36000 with causes := {}, target := none, state := .writing } 36000 ∧
    (∀ c ∈ (hall .paused .writing).roster, c.slot = 0 → timeRuns c = true →
      36000 < computedEnd { closePause (session .paused) 36000 with causes := {}, target := none, state := .writing } 36000 c)
    := by decide

theorem witness_HallHoldPausesTheHall_clears :
    (holding true false false).timer.inputHold = true ∧ (holding true false false).timer.holdInput = false ∧
    (holding true false false).timer.hostHold = false ∧ (holding true true false).timer.hostHold = true ∧
    (holding true false false).powered = true := by decide

theorem witness_EndsAndWarningsAreTaken_sessionEnd :
    sessionEndDue (withSession { session .writing with writing := 2700, cutoffTaken := some 34200 } .assigned) 0 = true ∧
    sessionEndDue (hall .writing .writing) 0 = false ∧ (cand .writing).absencePending = false ∧
    (∀ c ∈ (withSession { session .writing with writing := 2700, cutoffTaken := some 34200 } .finished).roster,
      c.slot = 0 → c.state ≠ .assigned) ∧
    EndsAfter 10 0 (withSession { session .writing with writing := 2700, cutoffTaken := some 34200 } .writing) := by
  refine ⟨by decide, by decide, by decide, by decide, by decide, by decide, by decide, by decide⟩

theorem witness_DefineSeatsTakesEntries_desk :
    (seatOf (hall .writing .writing) 1).state ≠ .undefined ∧
    ((seatOf (hall .writing .writing) 1).line ≠ 7 ∨ (seatOf (hall .writing .writing) 1).address ≠ 120) ∧
    (seatOf (hall .writing .writing) 1).line = 0 ∧ (seatOf (hall .writing .writing) 1).address = 2 := by decide

theorem witness_AllocationRuns_ends :
    canTake (.allocate 0 0 1 none 0) (hall .seating .present) = true ∧
    (∀ c ∈ (hall .seating .present).roster, c.slot = 0 → c.state ≠ .listed) ∧
    (allocating true).seatMap.alloc.all (·.ended) = false ∧ State.reset.seatMap.alloc.all (·.ended) = true ∧
    allocNext (allocating true) ⟨0, .rowMajor, 2, 0, none, 1, 9, false⟩ = none ∧
    (sessionOf (hall .reading .present) 0).state ≠ .defined ∧ (sessionOf (hall .reading .present) 0).state ≠ .seating := by
  decide

/-! ## Witnesses of further clauses: the roster and the desks -/

theorem witness_CandidatesAreAddedAndSet_each :
    entryFailure (hall .writing .writing) ⟨10, 0, 0, 0, 0⟩ = some .exists_ ∧
    entryFailure (hall .writing .writing) ⟨100000000, 0, 0, 0, 0⟩ = some .badValue ∧
    entryFailure (hall .writing .writing) ⟨11, 1, 0, 0, 0⟩ = some .wrongState ∧
    entryFailure (hall .writing .writing) ⟨11, 0, 101, 3601, 1⟩ = none ∧
    canTake (.addCandidates 0 1 [⟨11, 0, 33, 3601, 1⟩]) (hall .writing .writing) = true ∧
    (∀ e ∈ [(⟨11, 0, 33, 3601, 1⟩ : CandidateEntry)], 1 ≤ e.number ∧ e.number ≤ 99999999 ∧ e.slot < 8 ∧ e.needsAccess ≤ 1) ∧
    (hall .writing .writing).roster.length + 16 ≤ 960 ∧
    canTake (.addCandidates 0 17 []) (hall .writing .writing) = true ∧ 16 < 17 := by decide

theorem witness_CandidatesAreAddedAndSet_full :
    canTake (.addCandidates 0 1 [⟨1, 0, 0, 0, 0⟩])
      { hall .writing .writing with roster := List.replicate 960 (cand .writing) } = true ∧
    (List.replicate 960 (cand .writing)).length ≤ 960 ∧ 960 < (List.replicate 960 (cand .writing)).length + 1 := by
  refine ⟨by decide, le_of_eq List.length_replicate, ?_⟩
  rw [List.length_replicate]
  decide

theorem witness_CandidatesAreAddedAndSet_moved :
    canTake (.setCandidate 0 10 none none none (some 1)) { hall .collecting .listed with
      timer := { (hall .collecting .listed).timer with sessions := [(0, session .collecting), (1, session .writing)] } } = true ∧
    candidateOf (hall .collecting .listed) 10 = some (cand .listed) ∧ timeRuns (cand .listed) = false ∧
    isRunning (session .writing) ∧ (session .collecting).state = .collecting ∧
    (∀ e ∈ (hall .collecting .listed).roster, e.number ≠ 10 → e.slot = 0 → e.state = .collected) ∧
    (∃ e ∈ ({ hall .collecting .listed with roster := [cand .listed, { cand .left with number := 11 }] } : State).roster,
      e.number ≠ 10 ∧ e.slot = 0 ∧ ¬(e.state = .collected ∨ e.state = .absent ∨ e.state = .withdrawn)) := by decide

/-- Candidate 10 rests, 600 s of rest behind it, and would be out of time without that credit. -/
def rested : Candidate := { cand .resting with restTaken := 600 }
def restingHall : State :=
  { withSession { session .writing with writing := 2400, cutoffTaken := some 34200 } .resting with roster := [rested] }

theorem witness_CandidatesAreAddedAndSet_running :
    canTake (.setCandidate 0 10 none (some 0) none none) restingHall = true ∧
    candidateOf restingHall 10 = some rested ∧ timeRuns rested = true ∧ (sessionOf restingHall 0).state = .writing ∧
    (rested.restOverRaised = false ∧ 0 < rested.restAllowance ∧ 0 ≤ runningRest restingHall rested) ∧
    36000 < computedEnd (session .writing) 36000 { rested with restAllowance := 0, restOverRaised := true } ∧
    computedEnd (sessionOf restingHall 0) 36000 { rested with restAllowance := 0, restOverRaised := true } ≤ 36000 ∧
    computedEnd (sessionOf restingHall 0) 36000 { rested with restAllowance := 0, restOverRaised := true }
      < computedEnd (sessionOf restingHall 0) 36000 rested ∧
    rested.absencePending = false := by decide +kernel

theorem witness_CandidatesAreAddedAndSet_sound :
    RosterSound restingHall ∧ CandidateAgrees restingHall rested ∧ SeatsAgree (hall .writing .resting) ∧
    EndsAfter 10 0 restingHall := by
  refine ⟨⟨by decide, by decide, ?_⟩, ?_, seatsAgree_hall _ _ (by decide), by decide, by decide, by decide, by decide⟩
  · intro c hc
    simp only [restingHall, List.mem_singleton] at hc
    subst hc
    simp [CandidateInRange, rested, cand]
  · simp [CandidateAgrees, restingHall, rested, cand, withSession, hall, session, seatOf, tableRead, seatStateFor]

theorem witness_HostSettlesCandidates_end :
    EndsAfter 10 0 (withSession { session .writing with writing := 2700, cutoffTaken := some 34200 } .moving) ∧
    (cand .moving).absencePending = false := by
  refine ⟨⟨by decide, by decide, by decide, by decide⟩, by decide⟩

theorem witness_RestIsCountedAndReported_refused :
    seatAt (hall .writing .present) 0 1 = some 0 ∧ (cand .present).state = .present ∧
    candidateOf (hall .writing .present) 10 = some (cand .present) ∧
    (hall .writing .present).seatMap.seats ≠ [] ∧ stampBeforeOpt 0 (cand .present).seatSince = false ∧
    computedEnd (session .writing) 36000 { cand .resting with
        restTaken := (cand .resting).restTaken + unpaused (session .writing) 35400 35500 } ≠
      computedEnd (session .writing) 36000 (cand .resting) := by decide +kernel

theorem witness_SignInIsJudged_late :
    seatAt (hall .writing .assigned) 0 1 = some 0 ∧ candidateOf (hall .writing .assigned) 10 = some (cand .assigned) ∧
    (cand .assigned).seat = some 0 ∧ (session .writing).cutoffTaken = none ∧
    34199 = min (max 34199 ((cand .assigned).lastEffective.getD 0)) (hall .writing .assigned).timer.clock ∧
    34199 < (session .writing).start + (session .writing).reading + totalPause (session .writing) 36000 + (session .writing).late ∧
    (session .writing).start + (session .writing).reading + totalPause (session .writing) 36000 + (session .writing).late ≤ 34200 ∧
    ((session .paused).state = .paused ∧ (session .paused).target = some .writing) ∧
    34199 < ({ session .writing with cutoffTaken := some 34200 } : Session).cutoffTaken.getD 0 := by decide

theorem witness_SignInIsJudged_move :
    seatAt (hall .writing .moving) 0 1 = some 0 ∧ candidateOf (hall .writing .moving) 10 = some (cand .moving) ∧
    (cand .moving).seat = some 0 ∧ (cand .moving).moveStart = some 35000 ∧ (cand .moving).absencePending = false ∧
    36000 < computedEnd (session .writing) 36000
      { cand .moving with state := .writing, moveStart := none, moveCredit := 0 + min 600 (unpaused (session .writing) 35000 35001) } := by
  decide

/-- The session's base end is at the clock, so that a move of one second leaves the candidate without time. -/
def movingHall : State := withSession { session .writing with writing := 2690, cutoffTaken := some 34200 } .moving

theorem witness_SignInIsJudged_moveEnds :
    seatAt movingHall 0 1 = some 0 ∧ candidateOf movingHall 10 = some (cand .moving) ∧
    35001 = min (max 35001 ((cand .moving).lastEffective.getD 0)) movingHall.timer.clock ∧
    computedEnd (sessionOf movingHall 0) 36000
      { cand .moving with state := .writing, moveStart := none, moveCredit := 0 + min 600 (unpaused (session .writing) 35000 35001) }
      ≤ 36000 ∧
    computedEnd (sessionOf movingHall 0) 36000
      { cand .moving with state := .writing, moveStart := none, moveCredit := 0 + min 600 (unpaused (session .writing) 35000 35001) }
      < computedEnd (sessionOf movingHall 0) 36000 (cand .moving) ∧
    RosterSound movingHall ∧ EndsAfter 10 0 movingHall :=
  ⟨by decide, by decide, by decide, by decide +kernel, by decide +kernel, rosterSound_withSession .., by decide, by decide,
    by decide, by decide⟩

theorem witness_SignInIsJudged_refused :
    candidateOf (hall .writing .withdrawn) 10 = some (cand .withdrawn) ∧
    (candidateOf (hall .writing .absent) 10 = some (cand .absent) ∧ stampBefore 33300 (cand .absent).stateSince = false) ∧
    (candidateOf (hall .writing .finished) 10 = some (cand .finished) ∧ stampBefore 33300 (cand .finished).stateSince = false) ∧
    (candidateOf (hall .writing .writing) 10 = some (cand .writing) ∧ seatAt (hall .writing .writing) 0 2 = some 1 ∧
      (cand .writing).seat ≠ some 1) ∧
    (candidateOf (hall .writing .moving) 10 = some (cand .moving) ∧ (cand .moving).seat ≠ some 1) ∧
    ((cand .assigned).seat = some 0 ∧ (session .defined).state ≠ .seating ∧ (session .defined).state ≠ .paused) ∧
    ((cand .finished).stateSince.earlier = false ∧ 33299 < (cand .finished).stateSince.at_) := by decide

theorem witness_LeaveCallAndDeclare_settled :
    (cand .resting).state = .resting ∧ candidateOf (hall .writing .resting) 10 = some (cand .resting) ∧
    stampBeforeOpt 36000 (cand .resting).seatSince = false ∧
    stampBefore 33299 (cand .finished).stateSince = true ∧ (cand .finished).stateSince.earlier = false ∧
    EndsAfter 10 0 (withSession { session .writing with writing := 2700, cutoffTaken := some 34200 } .writing) := by
  refine ⟨by decide, by decide, by decide, by decide, by decide, by decide, by decide, by decide, by decide⟩

theorem witness_LeaveCallAndDeclare_seat :
    seatAt (hall .writing .writing) 0 2 = some 1 ∧ (seatOf (hall .writing .writing) 1).candidate = none ∧
    stampBeforeOpt 99 ({ cand .writing with seatSince := some { at_ := 100 } } : Candidate).seatSince = true ∧
    seatAt (hall .writing .writing) 0 3 = none := by decide

theorem witness_CycleSlotsSendAndDeliver_frames :
    seatAt (hall .writing .writing) 0 4 = none ∧
    (seatAt (hall .writing .writing) 0 2 = some 1 ∧ (seatOf (hall .writing .writing) 1).candidate = none) ∧
    (seatAt (hall .writing .writing) 0 1 = some 0 ∧ (seatOf (hall .writing .writing) 0).candidate = some (cand .writing).number) ∧
    candidateOf (hall .writing .writing) (cand .writing).number = some (cand .writing) := by decide

/-- Desk 1's reply with nothing buffered and no event, its display shown. -/
def quietReply : List Byte := [1, 2, 0, 0, 0, 0, 0, 0, 0, 0, 0, 253]

theorem witness_DeskReplyIsTaken_poll :
    (validReply (.poll 1) callReply).map (fun p => (p.1.mark, p.1.buffered, p.2)) = some (true, 1, .call) ∧
    (validReply (.poll 1) quietReply).map (fun p => (p.1.displayOk, p.1.buffered, p.2)) = some (true, 0, .none_) ∧
    (lineOf (withLine { state := .lost, awaited := some (.poll 1) }) 0).desks ≤ 120 ∧
    (lineOf (withLine { state := .lost, awaited := some (.poll 1) }) 0).awaited = some (.poll 1) ∧
    (deskOf (withLine { state := .running }) 0 1).reachable = true ∧
    (deskOf (withLine { state := .running }) 0 1).takenMark ≠ some true ∧
    (deskOf { withLine { state := .running } with desk := { (withLine { state := .running }).desk with
      desks := [(1, { reachable := true, takenMark := some true })] } } 0 1).takenMark = some true := by decide

theorem witness_DeskReplyIsTaken_drain :
    (lineOf (withLine { state := .lost, awaited := some (.delivery 1 .end_) }) 0).awaited = some (.delivery 1 .end_) ∧
    (validReply (.delivery 1 .end_) endReply).isSome = true ∧
    seatAt (hall .writing .assigned) 0 1 = some 0 ∧ (seatOf (hall .writing .assigned) 0).candidate = some 10 ∧
    candidateOf { hall .writing .assigned with roster := [{ cand .assigned with absencePending := true }] } 10
      = some { cand .assigned with absencePending := true } ∧
    (cand .assigned).absencePending = false ∧
    EndsAfter 10 0 (withSession { session .writing with writing := 2700, cutoffTaken := some 34200 } .assigned) := by
  refine ⟨by decide, by decide, by decide, by decide, by decide, by decide, by decide, by decide, by decide, by decide⟩

theorem witness_BoardsShowTheHall_rows :
    twoPages.boards.message = some (['A'], 0) ∧ 2 ≤ twoPages.boards.rows ∧ (['A'] : List Char).length ≤ 32 ∧
    ({ twoPages with boards := { twoPages.boards with message := some (List.replicate 32 'Z', 1) } } : State).boards.message
      = some (List.replicate 32 'Z', 1) ∧ (List.replicate 32 'Z').length ≤ 32 ∧
    (lineList twoPages)[0 + 0]? = some 0 ∧ (lineList State.reset)[0 + 0]? = none ∧
    State.reset.timer.clockUnset = true ∧ (lineList twoPages).length ≤ 2 ∧
    (sessionOf twoPages 1).state = .seating ∧ (session .writing).paper.length = 6 ∧ (session .writing).state = .writing := by
  decide

/-! ## Witnesses of further clauses: the reader, the store, collection, marking -/

theorem witness_StationsAreSwitched_timers :
    ((stationOf (reading { state := .warming } none {}) 3).state = .warming ∧
      (stationOf (reading { state := .warming } none {}) 3).warmTimer = 0) ∧
    0 < (stationOf (reading { state := .warming, warmTimer := 1 } none {}) 3).warmTimer ∧
    (stationOf (reading { state := .idle, standby := 30, idleTimer := 29 } none {}) 3).idleTimer
      < (stationOf (reading { state := .idle, standby := 30, idleTimer := 29 } none {}) 3).standby ∧
    ((stationOf (reading { state := .idle, standby := 30, idleTimer := 30 } none {}) 3).state = .idle ∧
      (stationOf (reading { state := .idle, standby := 30, idleTimer := 30 } none {}) 3).request = false ∧
      (stationOf (reading { state := .idle, standby := 30, idleTimer := 30 } none {}) 3).standby
        ≤ (stationOf (reading { state := .idle, standby := 30, idleTimer := 30 } none {}) 3).idleTimer) := by decide

theorem witness_TransfersComplete_granted :
    (∀ k, k < 4 → grantable (reading { state := .idle } none {}) k = false) ∧
    ((reading { state := .idle } none {}).reader.lastGranted.all fun k => decide (k < 4)) = true ∧
    grantable (reading { state := .idle, request := true } none {}) 3 = true := by decide

theorem witness_TransfersBreakOffAndWait_items :
    ((sheetTransfer true).headerTaken = true ∧ (sheetTransfer true).slot = some 0 ∧
      readyIsLow (reading { state := .transferring } (some (sheetTransfer true)) {}) 3 = false) ∧
    ((sheetTransfer false).headerTaken = false ∧ ([] : List Byte).length ≠ 5 ∧ sum8 [1, 0, 0, 0, 0] ≠ 0) ∧
    (([] : List Byte).length ≠ 8 ∧ sum8 [1, 0, 0, 0, 0, 0, 0, 0] ≠ 0) ∧
    (stationOf (reading { state := .transferring, checkFailures := 2 } (some (sheetTransfer true)) {}) 3).checkFailures
      = 2 := by decide

/-- A sheet in flight that waits for its 10 rows, with a READ_SHEET of slot 1 that waits for 2, marking served last. -/
def bothReading : State :=
  { State.reset with
    store := { slots := [(0, { state := .marking, rowCount := some 12 }), (1, { state := .held, rowCount := some 12 })]
               readJob := some ⟨4, 1, 10, 64, .held, none, 12, 0⟩, lastServed := .marking }
    marking := { inFlight := some { slot := 0, phase := .identifying, identity := none, session := none, generation := none } } }

theorem witness_StoreRequestsAnswer_arbiter :
    bothReading.marking.inFlight.isSome = true ∧ bothReading.store.readJob.isSome = true ∧
    (readsWaiting bothReading).marking = 10 ∧ (readsWaiting bothReading).export_ = 2 ∧
    State.reset.marking.inFlight = none ∧
    (after .readSheetDone bothReading).marking.inFlight.map (·.rowsRead) = some 1 := by decide

theorem witness_CoversAreQueuedAndJudged_unknown :
    sessionOfForm (collecting .ended (cand .finished) [cover 9] none) 65535 = none ∧
    sessionOfForm (collecting .ended { cand .finished with slot := 1 } [cover 9] none) 21330 = some 0 ∧
    (collecting .ended (cand .collected) [cover 0] none).coll.covers = cover 0 :: [] ∧
    (cand .collected).state = .collected ∧ (cover 0).ordinal = 0 := by decide

theorem witness_CoversAreQueuedAndJudged_identity :
    ∀ c, candidateOf (collecting .ended { cand .finished with slot := 1 } [cover 9] none) 10 = some c → c.slot ≠ 0 := by
  intro c h
  simp [candidateOf, collecting, cand] at h
  simp [← h]

/-- Every bundle header holds a closed bundle of another session. -/
def fullTable : State :=
  { collecting .collecting whole [] (some (sweeping 1)) with
    coll := { sweep := some (sweeping 1)
              bundles := (List.range 256).map fun h =>
                (h, some { slot := 1, number := h + 1, isOpen := false, entries := [h], opened := 1 }) } }

theorem witness_ScriptsAreCheckedAndCollected_full :
    fullTable.coll.sweep = some (sweeping 1) ∧ (sweeping 1).ended = false ∧
    seatToCheck fullTable (sweeping 1) = some whole ∧ scriptFailure (session .collecting) whole = none ∧
    (sessionOf fullTable 0).state = .collecting := by decide

theorem witness_ScriptsAreCheckedAndCollected_noHeader : headerFor fullTable 0 = none := by decide +kernel

theorem witness_ScriptsAreCheckedAndCollected_endings :
    (sessionOf (collecting .closed (cand .collected) [] (some (sweeping 1))) 0).state ≠ .collecting ∧
    seatToCheck (collecting .collecting (cand .finished) [] (some (sweeping 1))) (sweeping 1) = some (cand .finished) ∧
    ({ sweeping 1 with swept := 1, ended := true } : Sweep).ended = true ∧
    (session .collecting).bundleSize ≤ 4 + 1 ∧
    (∃ e ∈ ({ collecting .collecting whole [] none with roster := [whole, { cand .left with number := 11 }] } : State).roster,
      e.number ≠ 10 ∧ e.slot = 0 ∧ ¬(e.state = .collected ∨ e.state = .absent ∨ e.state = .withdrawn)) := by decide

/-- An image whose grid reads the number 00000010, and one of its rows rubbed into another. -/
def grid (rubbed : Bool) : List (List Byte) :=
  (if rubbed then [200, 200, 200, 200, 200, 200, 200, 200] else [200, 200, 200, 200, 200, 200, 0, 200]) ::
    [0, 0, 0, 0, 0, 0, 128, 0] :: List.replicate 10 [0, 0, 0, 0, 0, 0, 0, 0]

/-- An unassigned sheet in marking with a grid. -/
def gridSheet (rubbed : Bool) : Slot :=
  { state := .marking, form := some 21330, rowCount := some 12, rowsFilled := 12, image := grid rubbed }

theorem witness_SheetsAreIdentifiedAndScored_decoded :
    decodeNumber (grid false) 128 = .number 10 ∧ decodeNumber (grid true) 128 = .unreadable (.severalRows 6) ∧
    decodeNumber (grid false) 129 = .unreadable (.noRow 6) ∧
    decodeNumber [[128, 128, 128, 128, 128, 128, 128, 128]] 128 = .unreadable .zeroNumber ∧
    (gridSheet true).assigned = none ∧
    (slotOf (marking (key .ready) (cand .finished) (gridSheet false) (some (flight .identifying)) none) 0).form = some 21330 := by
  decide

theorem witness_SheetsAreIdentifiedAndScored_held :
    (cand .writing).state = .writing ∧ timeRuns (cand .writing) = true ∧ (cand .absent).state = .absent ∧
    ({ cand .finished with sheetReceived := true } : Candidate).sheetReceived = true ∧
    (sheet .marking).receipt ≠ some 10 ∧ ({ sheet .marking with receipt := some 10 } : Slot).receipt = some 10 ∧
    candidateOf (marking (key .ready) (cand .writing) (sheet .marking) (some (flight .identifying)) none) 10 = some (cand .writing) ∧
    (keyOf (marking (key .loading) (cand .finished) (sheet .marking) (some (flight .identifying)) none) 0).state ≠ .ready ∧
    ((keyOf (marking (key .ready) (cand .finished) (sheet .marking) (some (flight .identifying)) none) 0).questions = some 2 ∧
      ({ sheet .marking with rowCount := some 11 } : Slot).rowCount = some 11 ∧ 11 < 10 + 2) := by decide

theorem witness_SheetsAreIdentifiedAndScored_unknown :
    ∀ c, candidateOf (marking (key .ready) { cand .finished with slot := 1 } (sheet .marking) (some (flight .identifying)) none)
      10 = some c → c.slot ≠ 0 := by
  intro c h
  simp [candidateOf, marking, cand] at h
  simp [← h]

/-- Decoding: each position has its own digit row. -/
theorem witness_SheetsAreIdentifiedAndScored_rows :
    ∀ p, p < 8 → ∀ r, (r < 10 ∧ 128 ≤ (((grid false).getD r []).getD p 0).toNat) ↔ r = if p = 6 then 1 else 0 := by
  intro p hp r
  by_cases hr : r < 10
  · interval_cases p <;> interval_cases r <;> decide
  · constructor
    · intro h; omega
    · intro h; split at h <;> omega

/-- The session's candidate is COLLECTED and stands in its OPEN bundle. -/
def bundled : State :=
  { hall .collecting .collected with
    roster := [{ cand .collected with bundle := some 1 }]
    coll := { bundles := [(0, some { slot := 0, number := 1, isOpen := true, entries := [10], opened := 1 })]
              openBundle := [(0, some 0)], nextBundle := [(0, 2)] } }

theorem witness_EveryStepKeepsTheRosterSound_bundles : RosterSound bundled ∧ ResultsSound bundled := by
  refine ⟨⟨by decide, by decide, ?_⟩, ?_, ?_, ?_, ?_, ?_⟩
  · intro c hc
    simp only [bundled, List.mem_singleton] at hc
    subst hc
    simp [CandidateInRange, cand]
  · intro c hc m hm
    simp only [bundled, List.mem_singleton] at hc
    subst hc
    simp [cand] at hm
  · intro c hc _
    simp only [bundled, List.mem_singleton] at hc
    subst hc
    decide
  · intro c hc _
    simp only [bundled, List.mem_singleton] at hc
    subst hc
    decide
  · intro r hr
    simp [bundled, hall, State.reset] at hr
  · intro r hr
    simp [bundled, hall, State.reset] at hr

/-- The one bundle of `bundled`. -/
theorem bundleOf_bundled (h : Nat) : bundleOf bundled h =
    if h = 0 then some { slot := 0, number := 1, isOpen := true, entries := [10], opened := 1 } else none := by
  by_cases h0 : h = 0
  · subst h0; rfl
  · simp [bundleOf, bundled, tableRead, h0, Ne.symm h0]

theorem openBundleOf_bundled (k : Nat) : openBundleOf bundled k = if k = 0 then some 0 else none := by
  by_cases h0 : k = 0
  · subst h0; rfl
  · simp [openBundleOf, bundled, tableRead, h0, Ne.symm h0]

theorem witness_EveryStepKeepsTheRosterSound_bundled : BundlesSound bundled := by
  refine ⟨?_, ?_, ?_, ?_, ?_, ?_⟩
  · intro k hk
    by_cases h0 : k = 0
    · subst h0; decide
    · simp [sessionOf, bundled, hall, tableRead, Ne.symm h0] at hk
  · intro k
    by_cases h0 : k = 0
    · subst h0; decide
    · simp [nextBundleOf, bundled, tableRead, Ne.symm h0]
  · intro h b hb
    rw [bundleOf_bundled] at hb
    split at hb
    · obtain rfl := Option.some.inj hb
      subst h
      refine ⟨by decide, ⟨by decide, by decide, by decide, by decide, by decide, by decide, by decide, by decide,
        by decide, ?_⟩, by decide⟩
      intro n hn
      simp only [List.mem_singleton] at hn
      subst hn
      exact ⟨{ cand .collected with bundle := some 1 }, by decide, by decide, by decide, by decide⟩
    · cases hb
  · intro k h hk
    rw [openBundleOf_bundled] at hk
    split at hk
    · obtain rfl := Option.some.inj hk
      subst k
      decide
    · cases hk
  · intro h g b d hb hd _ _
    rw [bundleOf_bundled] at hb hd
    split at hb <;> split at hd <;> simp_all
  · intro c hc _
    simp only [bundled, List.mem_singleton] at hc
    subst hc
    exact ⟨0, by decide, by decide⟩

/-- A hall with one FILLED sheet waiting and one in flight. -/
def queued : State :=
  { State.reset with
    store := { slots := [(0, { state := .filled }), (47, { state := .marking })], queue := [0] }
    marking := { inFlight := some { slot := 47, phase := .identifying, identity := none, session := none, generation := none } } }

theorem slotOf_queued (n : Nat) : slotOf queued n =
    if n = 0 then { state := .filled } else if n = 47 then { state := .marking } else {} := by
  by_cases h0 : n = 0
  · subst h0; rfl
  · by_cases h1 : n = 47
    · subst h1; rfl
    · simp [slotOf, queued, tableRead, h0, h1, Ne.symm h0, Ne.symm h1]

theorem witness_EveryStepKeepsTheBounds_queue : QueueSound queued := by
  refine ⟨by decide, ?_, ?_, ?_, ?_⟩
  · intro n
    rw [slotOf_queued]
    have : n ∈ queued.store.queue ↔ n = 0 := by simp [queued]
    rw [this]
    constructor
    · rintro rfl; decide
    · rintro ⟨-, h⟩
      by_contra h0
      by_cases h1 : n = 47 <;> simp [h0, h1] at h
  · intro v n hv
    simp [queued, State.reset] at hv
  · intro r hr
    simp only [queued, Option.some.injEq] at hr
    subst hr
    rw [slotOf_queued]
    decide
  · intro _ n _ h
    rw [slotOf_queued] at h
    by_cases h0 : n = 0
    · simp [h0] at h
    · by_cases h1 : n = 47
      · subst h1; rfl
      · simp [h0, h1] at h

/-- The session's candidate has a CURRENT result, and its second sheet is being scored. -/
def scored : State :=
  marking (key .ready) { cand .left with sheetReceived := true, responses := some responses
                                         marks := some (marksOf (key .ready) responses 36000 false) }
    (sheet .marking) (some (flight .scoring)) (some { slot := 0, generation := 255, position := 0, tag := 6 })

theorem witness_EveryStepKeepsTheSessionsSound_results : RosterSound scored ∧ ResultsSound scored := by
  refine ⟨⟨by decide, by decide, ?_⟩, ?_, ?_, ?_, ?_, ?_⟩
  · intro c hc
    simp only [scored, marking, List.mem_singleton] at hc
    subst hc
    simp [CandidateInRange, cand]
  · intro c hc m hm _
    simp only [scored, marking, List.mem_singleton] at hc
    subst hc
    obtain rfl := Option.some.inj hm
    decide
  · intro c hc _
    simp only [scored, marking, List.mem_singleton] at hc
    subst hc
    decide
  · intro c hc _
    simp only [scored, marking, List.mem_singleton] at hc
    subst hc
    decide
  · intro r hr _
    simp only [scored, marking, Option.some.injEq] at hr
    subst hr
    exact ⟨0, 10, _, rfl, by decide, rfl, by decide, by decide, rfl, by decide, by decide, by decide⟩
  · intro r hr
    simp only [scored, marking, Option.some.injEq] at hr
    subst hr
    decide

theorem witness_EveryStepKeepsTheSessionsSound_queue : QueueSound { scored with store := { scored.store with queue := [] } } := by
  have hs : ∀ n, slotOf { scored with store := { scored.store with queue := [] } } n
      = if n = 0 then sheet .marking else {} := by
    intro n
    by_cases h0 : n = 0
    · subst h0; rfl
    · simp [slotOf, scored, marking, tableRead, h0, Ne.symm h0]
  refine ⟨by decide, ?_, ?_, ?_, ?_⟩
  · intro n
    rw [hs]
    by_cases h0 : n = 0 <;> simp [h0, sheet]
  · intro v n hv
    simp [scored, marking, hall, State.reset] at hv
  · intro r hr
    simp only [scored, marking, Option.some.injEq] at hr
    subst hr
    rw [hs]
    decide
  · intro _ n _ h
    rw [hs] at h
    by_cases h0 : n = 0
    · subst h0; rfl
    · simp [h0] at h

/-! ## Witnesses of further clauses: refused seat entries, closing sessions, desks that take no deliveries -/

/-- What DEFINE_SEATS entries of seat `n` are refused with in the running hall. -/
def refusedAs (e : SeatEntry) : Option (Result × Detail) := (takeSeatEntry e (hall .writing .writing)).1

theorem witness_DefineSeatsTakesEntries_refused :
    [refusedAs ⟨0, 960, 0, 0, 0, 1, 0, 0, 0⟩, refusedAs ⟨0, 9, 40, 64, 8, 1, 0, 0, 0⟩, refusedAs ⟨0, 9, 9, 9, 9, 121, 2, 0, 0⟩,
      refusedAs ⟨0, 9, 9, 9, 1, 0, 0, 0, 0⟩, refusedAs ⟨0, 0, 9, 9, 1, 1, 0, 0, 0⟩, refusedAs ⟨0, 0, 0, 2, 0, 2, 0, 0, 0⟩,
      refusedAs ⟨0, 9, 0, 2, 0, 2, 0, 0, 0⟩, refusedAs ⟨0, 9, 9, 9, 0, 2, 0, 0, 0⟩, refusedAs ⟨0, 9, 9, 9, 0, 3, 0, 0, 0⟩,
      refusedAs ⟨1, 960, 0, 0, 0, 0, 0, 0, 0⟩, refusedAs ⟨1, 0, 0, 0, 0, 0, 0, 0, 0⟩, refusedAs ⟨1, 1, 0, 0, 0, 0, 0, 0, 0⟩,
      refusedAs ⟨1, 9, 0, 0, 0, 0, 0, 0, 0⟩, refusedAs ⟨2, 1, 0, 0, 0, 0, 0, 0, 0⟩]
    = [some (.badValue, .none_), some (.badValue, .none_), some (.badValue, .none_), some (.badValue, .none_),
      some (.wrongState, .seatOccupied), some (.wrongState, .seatOccupied), some (.exists_, .positionUsed),
      some (.exists_, .deskUsed), none, some (.badValue, .none_), some (.wrongState, .seatOccupied), none, none,
      some (.badValue, .none_)] := by decide

theorem witness_DefineSeatsTakesEntries_answers :
    canTake (.defineSeats 0 1 [⟨0, 9, 0, 2, 0, 2, 0, 0, 0⟩]) (hall .writing .writing) = true ∧
    canTake (.defineSeats 0 1 [⟨1, 9, 0, 0, 0, 0, 0, 0, 0⟩]) (hall .writing .writing) = true ∧
    (seatOf (hall .writing .writing) 9).state = .undefined ∧ (hall .writing .writing).seatMap.alloc = none ∧
    canTake (.defineSeats 0 0 []) (hall .writing .writing) = true ∧
    canTake (.defineSeats 0 65 []) (hall .writing .writing) = true ∧
    canTake (.defineSeats 0 1 [⟨1, 1, 0, 0, 0, 0, 0, 0, 0⟩]) (allocating true) = true ∧
    (allocating true).seatMap.alloc.isSome = true ∧
    canTake (.defineSeats 0 2 [⟨2, 1, 0, 0, 0, 0, 0, 0, 0⟩, ⟨1, 1, 0, 0, 0, 0, 0, 0, 0⟩]) (hall .writing .writing) = true := by
  decide

/-- A COLLECTING session whose last unsettled candidate is LISTED, and one with another candidate that still has a script. -/
def lastListed : State := collecting .collecting (cand .listed) [] none
def listedWith (e : Candidate) : State := { lastListed with roster := [cand .listed, { e with number := 11 }] }

theorem witness_HostSettlesCandidates_listed :
    canTake (.withdraw 0 10) lastListed = true ∧ candidateOf lastListed 10 = some (cand .listed) ∧
    (cand .listed).absencePending = false ∧ (sessionOf lastListed (cand .listed).slot).state = .collecting ∧
    openBundleOf lastListed 0 = some 255 ∧ (bundleOf lastListed 255).isSome = true ∧
    canTake (.withdraw 0 10) (listedWith (cand .left)) = true ∧
    candidateOf (listedWith (cand .left)) 10 = some (cand .listed) ∧
    (∃ e ∈ (listedWith (cand .left)).roster, e.number ≠ 10 ∧ e.slot = (cand .listed).slot ∧
      ¬(e.state = .collected ∨ e.state = .absent ∨ e.state = .withdrawn)) ∧
    (∀ e ∈ (listedWith (cand .absent)).roster, e.number ≠ 10 → e.slot = (cand .listed).slot →
      e.state = .collected ∨ e.state = .absent ∨ e.state = .withdrawn) := by decide +kernel

theorem witness_SignInIsJudged_agreed : SeatsAgree movingHall := seatsAgree_hall .writing .moving (by decide)

theorem witness_LeaveCallAndDeclare_agreed : SeatsAgree (hall .writing .writing) := seatsAgree_hall _ _ (by decide)

theorem witness_LeaveCallAndDeclare_call :
    seatAt (hall .closed .collected) 0 2 = some 1 ∧ seatAt (hall .writing .resting) 0 1 = some 0 ∧
    (seatOf (hall .writing .resting) 0).candidate = some (cand .resting).number ∧
    candidateOf (hall .writing .resting) 10 = some (cand .resting) ∧
    stampBeforeOpt 99 ({ cand .writing with seatSince := some { at_ := 100 } } : Candidate).seatSince = true := by decide

/-- Line 0 as given stands among seven lines as start-up leaves them. -/
theorem linesSound_of_line (s : State) (x : Line) (h : s.desk.lines = [(0, x)]) (hd : x.desks = 4) (hs : x.spare = 2)
    (hm : x.missedCycles ≤ 3) (hp : x.probe = 1) (hv : x.delivery ≤ 4)
    (ha : ∀ a k, x.awaited ≠ some (.poll a) ∧ x.awaited ≠ some (.delivery a k)) : LinesSound s := by
  intro l
  have hl : lineOf s l = if l = 0 then x else {} := by
    by_cases h0 : l = 0
    · subst h0
      simp [lineOf, h, tableRead]
    · simp [lineOf, h, tableRead, h0, Ne.symm h0]
  rw [hl]
  split
  · refine ⟨by omega, by omega, by omega, by omega, by omega, hm, by omega, by omega, by omega, ?_, ?_⟩
    · intro a e
      exact absurd e (ha a .end_).1
    · intro a k e
      exact absurd e (ha a k).2
  · simp

theorem witness_EveryStepKeepsTheBounds_lines : LinesSound (hall .writing .writing) :=
  linesSound_of_line _ _ rfl rfl rfl (by decide) rfl (by decide) (by simp)

theorem witness_ConfigureLineRestartsTheLine_frozen :
    LinesSound (withLine { state := .fault }) ∧ (lineOf (withLine { state := .fault }) 0).state = .fault ∧
    (lineOf (hall .writing .writing) 0).desks < 5 ∧
    exec (.moveCandidate 0 10 (some 1) 1) (withLine { state := .fault })
      = .next (after (.moveCandidate 0 10 (some 1) 1) (withLine { state := .fault })) ∧
    exec (.setSeparation 0 0) (hall .writing .writing) = .next (after (.setSeparation 0 0) (hall .writing .writing)) ∧
    deskTakes (withLine { state := .fault }) 0 1 = false ∧ deskTakes (hall .writing .writing) 0 5 = false ∧
    deskTakes (hall .writing .writing) 0 0 = false ∧ deskTakes (hall .writing .writing) 0 1 = true ∧
    deskTakes (hall .writing .writing) 0 4 = true :=
  ⟨linesSound_of_line _ _ rfl rfl rfl (by decide) rfl (by decide) (by simp), by decide, by decide, rfl, rfl, by decide,
    by decide, by decide, by decide, by decide⟩

theorem witness_DeskReplyIsTaken_unreachable :
    (deskOf (withLine { state := .running, awaited := some (.poll 4) }) 0 4).reachable = false ∧
    (1 ≤ 4 ∧ 4 ≤ (lineOf (withLine { state := .running, awaited := some (.poll 4) }) 0).desks) ∧
    (validReply (.poll 4) [4, 2, 0, 0, 0, 0, 0, 0, 0, 0, 0, 250]).isSome = true := by decide

theorem witness_LineTestRunsAndEnds_unsent :
    canTake (.lineTest 0 0 0 1) (unsent 0x43 11 { withLine { state := .running } with roster := [], seatMap := {} }) = true ∧
    lineInUse { withLine { state := .running } with roster := [], seatMap := {} } 0 = none := by decide

theorem witness_EveryStepKeepsTheBounds_replies :
    RepliesBounded (unsent 0x43 7 (withLine { state := .test, test := some (lastCycle .echo) })) ∧
    leavesReplyPlaces (.remark 1 0) (unsent 0x43 8 State.reset) ∧ leavesReplyPlaces (.lineTest 1 0 0 1) (unsent 0x43 7 State.reset) ∧
    leavesReplyPlaces (.transmitStart true) (unsent 0x84 1 State.reset) := by
  simp only [RepliesBounded, leavesReplyPlaces]
  decide

/-- R96: with eight replies of earlier tests unsent a LINE_TEST is judged by the rule's own checks: an OFF line is WRONG_STATE,
a RUNNING one goes to TEST. -/
theorem test_lineTest_with_unsent_replies :
    (after (.lineTest 1 7 0 1) (unsent 0x43 8 State.reset)).link.replies.map (·.result)
      = List.replicate 8 .ok ++ [.wrongState] ∧
    (lineOf (after (.lineTest 1 0 0 1) (unsent 0x43 8 { withLine { state := .running } with roster := [], seatMap := {} })) 0).state
      = .test := by decide

/-- R180: the unsent reply of an earlier REMARK keeps none from being taken. -/
theorem test_remark_with_unsent_reply :
    (after (.remark 1 0) (unsent 0x84 1 (marking (key .ready) { cand .finished with responses := some responses } {} none
      none))).marking.remark.isSome = true := by decide

/-- R148 and R150: the fifth script of a bundle of five closes it, and the reply says so and what the sweep would have found. -/
theorem test_acceptException_reply :
    (after (.acceptException 1 10) { collecting .collecting (cand .left) [] none with
      coll := { bundles := [(255, some { slot := 0, number := 256, isOpen := true, entries := [1, 2, 3, 4], opened := 1 })]
                openBundle := [(0, some 255)] } }).link.replies
      = [okReply 1 0x74 [.num 2 256, .num 1 1, .opt 1 (some 0)]] := by decide +kernel

theorem witness_CollectionOpensAndAccepts_closings :
    5 ≤ (bundleToFill { collecting .collecting (cand .left) [] none with
      coll := { bundles := [(255, some { slot := 0, number := 256, isOpen := true, entries := [1, 2, 3, 4], opened := 1 })]
                openBundle := [(0, some 255)] } } 0).entries.length + 1 ∧
    (session .collecting).bundleSize = 5 ∧
    (bundleToFill (collecting .collecting (cand .left) [] none) 0).entries.length + 1 < (session .collecting).bundleSize ∧
    (∀ e ∈ (collecting .collecting (cand .left) [] none).roster, e.number ≠ 10 → e.slot = 0 → e.state = .collected) ∧
    (∃ e ∈ ({ collecting .collecting (cand .left) [] none with roster := [cand .left, { cand .left with number := 11 }] } :
      State).roster, e.number ≠ 10 ∧ e.slot = 0 ∧ ¬(e.state = .collected ∨ e.state = .absent ∨ e.state = .withdrawn)) := by
  decide +kernel

theorem witness_CollectionOpensAndAccepts_sound : RosterSound (collecting .collecting (cand .left) [] none) :=
  rosterSound_hall .collecting .left

theorem witness_KeysAreLoaded_replies :
    noKeySlots { State.reset with store := { slots := [(3, { state := .held, holdReason := some .noKey, form := some 7 }),
      (5, { state := .held, holdReason := some .noKey, form := some 8 }),
      (47, { state := .held, holdReason := some .noKey, form := some 7 })] } } (some 7) = [3, 47] ∧
    lowestUndefined { key .loading with questions := some 3 } = some 3 ∧ lowestUndefined (key .loading) = none ∧
    ({ key .loading with questions := some 3 } : Key).questions = some 3 := by decide

/-- Candidate 10 short of an entry, or without responses, with another of the session's candidates after it or none. -/
def remarkHall (es : Option (List Response)) (more : Bool) : State :=
  { marking (key .ready) { cand .finished with responses := es } {} none (some (remarking 0)) with
    roster := { cand .finished with responses := es } :: if more then [{ cand .finished with number := 11 }] else [] }

theorem witness_RemarkRescores_steps :
    (responses.take 1).length < 2 ∧
    remarkNext (remarkHall (some (responses.take 1)) true) (remarking 0)
      = some (0, { cand .finished with responses := some (responses.take 1) }) ∧
    remarkNext (remarkHall none false) (remarking 0) = some (0, cand .finished) ∧
    remarkNext (remarkHall none true) (remarking 1) = some (1, { cand .finished with number := 11 }) ∧
    (remarkHall none true).roster[1]?.map (·.slot) = some 0 ∧ (remarkHall none false).roster[1]? = none ∧
    (remarkHall none true).marking.remark = some (remarking 0) ∧ (remarkHall none true).powered = true := by decide

theorem witness_RemarkRescores_last : ∀ i d, 0 < i → (remarkHall none false).roster[i]? = some d → d.slot ≠ 0 := by
  intro i d hi h
  obtain ⟨j, rfl⟩ := Nat.exists_eq_succ_of_ne_zero (by omega : i ≠ 0)
  simp [remarkHall] at h

theorem namesSession_hall (ss : SessState) (cs : CandState) (k n : Nat) (h : n ≠ 0) :
    namesSession (hall ss cs) k (seatOf (hall ss cs) n) = false := by
  by_cases h1 : n = 1
  · subst h1
    simp [namesSession, hall, seatOf, tableRead]
  · simp [namesSession, hall, seatOf, tableRead, Ne.symm h, Ne.symm h1]

theorem witness_EveryStepKeepsSeatsAndCandidatesAgreed_separation :
    RosterSound (hall .writing .writing) ∧ SeatsAgree (hall .writing .writing) ∧ SeparationHolds (hall .writing .writing) := by
  refine ⟨rosterSound_hall _ _, seatsAgree_hall _ _ (by decide), ?_⟩
  intro n m k hadj hn
  by_cases h0 : n = 0
  · by_cases h1 : m = 0
    · subst h0
      subst h1
      exact absurd hadj (by decide)
    · exact namesSession_hall _ _ k m h1
  · rw [namesSession_hall _ _ k n h0] at hn
    cases hn


/-! ## Witnesses of further clauses: the ready lines, the wrap, starts with R = 0 -/

theorem witness_TransfersBreakOffAndWait_lines :
    ({ station := 3, slot := none } : Transfer).slot = none ∧
    readyIsLow (lowReady { station := 3, slot := none } { state := .transferring, kind := .cover }) 3 = true ∧
    (lowReady { station := 3, slot := none } { state := .transferring, kind := .cover }).reader.transfer
      = some { station := 3, slot := none } ∧
    (lowReady (sheetTransfer true) { state := .transferring }).reader.transfer.all (fun v => v.held.isNone) = true ∧
    readyIsLow (reading { state := .transferring } (some (sheetTransfer true)) {}) 3 = false ∧
    (lowReady { sheetTransfer true with held := some [1] } { state := .transferring }).reader.transfer.bind (·.held) = some [1] ∧
    (after .powerFail State.reset).powered = false := by decide

theorem witness_StationsAreSwitched_wake :
    canTake (.wakeStation 0 3) (reading { state := .standby, standby := 30, idleTimer := 30 } none {}) = true ∧
    (stationOf (reading { state := .standby, standby := 30, idleTimer := 30 } none {}) 3).state = .standby := by decide

theorem witness_ClockIsReadSetAndCounted_wrap :
    RosterSound (lateHall .seating .present) ∧ 86399 ≤ (lateHall .seating .present).timer.clock ∧
    (sessionOf (lateHall .seating .present) 0).state ≠ .writing ∧ (lateHall .seating .present).powered = true ∧
    (∀ k, k < 8 → (sessionOf (lateHall .seating .present) k).state ≠ .writing) ∧
    (cand .writing).state ≠ .assigned ∧ ({ session .seating with start := 0 } : Session).start = 0 :=
  ⟨rosterSound_hall .seating .present, by decide, by decide, by decide, by decide, by decide, by decide⟩

theorem witness_PowerReturnStartsTheBlocksUp_starts :
    (outage 86399 33300 (hall .seating .present)).powered = false ∧
    (outage 86399 33300 (hall .seating .present)).timer.failInstant = some 86399 ∧
    (outage 86399 33300 (hall .seating .present)).timer.clock < 86399 ∧
    RosterSound (outage 86399 33300 (hall .seating .present)) ∧
    ¬ isRunning (sessionOf (outage 86399 33300 (hall .seating .present)) 0) ∧
    ¬ isRunning (sessionOf (outage 86399 33299 (hall .defined .listed)) 0) ∧
    (session .seating).start ≤ 33300 ∧ ¬(86399 < (session .defined).start ∨ (session .defined).start ≤ 33299) :=
  ⟨by decide, by decide, by decide, rosterSound_outage .., by decide, by decide, by decide, by decide⟩

theorem witness_SessionsAreDefinedAndStarted_paper :
    canTake (.defineSession 0 0 (entry 36001)) (hall .defined .assigned) = true ∧
    (sessionOf (hall .defined .assigned) 0).paper ≠ (entry 36001).paper ∧
    (sessionOf (hall .defined .assigned) 0).state = .defined ∧
    (seatOf (hall .defined .assigned) 0).state ≠ .undefined ∧
    (seatOf (hall .defined .assigned) 0).candidate = some (cand .assigned).number ∧
    candidateOf (hall .defined .assigned) (cand .assigned).number = some (cand .assigned) ∧ (cand .assigned).slot = 0 ∧
    (∀ p ∈ definedSeats (hall .defined .assigned), deskKey p.2.line p.2.address ≠ deskKey 7 120) := by decide

theorem witness_SessionsAreDefinedAndStarted_writing :
    canTake (.startSession 0 0) (hall .seating .present) = true ∧ RosterSound (hall .seating .present) ∧
    (session .seating).reading = 0 ∧ (session .seating).cutoffTaken = none ∧
    cutoffWithStart (withSession { session .seating with late := 0 } .present) { session .seating with start := 36000, late := 0 } ∧
    ¬ cutoffWithStart (hall .seating .present) { session .seating with start := 36000 } ∧
    ¬ cutoffWithStart (withSession { session .seating with late := 0, causes := { host := true } } .present)
      { session .seating with start := 36000, late := 0, causes := { host := true } } ∧
    RosterSound (withSession { session .seating with startDue := true } .present) :=
  ⟨by decide, rosterSound_hall .., by decide, by decide, by unfold cutoffWithStart; decide, by unfold cutoffWithStart; decide,
    by unfold cutoffWithStart; decide, rosterSound_withSession ..⟩

theorem witness_CycleSlotsSendAndDeliver_served :
    servable { withLine { state := .running, delivery := 1 } with desk := {
      lines := (withLine { state := .running, delivery := 1 }).desk.lines
      desks := [(1, { reachable := true, owedEnd := true })] } } 0 1 ∧
    ¬ servable (withLine { state := .running, delivery := 1 }) 0 2 := by
  unfold servable
  decide

/-- R87: the search begins after the delivery position and wraps. -/
theorem test_servedDesk_rotates :
    [0, 1, 2, 4].map (fun position =>
      servedDesk { withLine { state := .running, delivery := position } with desk := {
        lines := (withLine { state := .running, delivery := position }).desk.lines
        desks := [(1, { reachable := true, owedEnd := true }), (2, { reachable := true, owedSeat := true }),
          (3, { reachable := false, owedEnd := true })] } } 0) = [some 1, some 2, some 1, some 1] := by decide

/-- R116: WAKE_STATION of a STANDBY station sets its idle timer to 0. -/
theorem test_wakeStation_idleTimer :
    (stationOf (after (.wakeStation 0 3) (reading { state := .standby, standby := 30, idleTimer := 30 } none {})) 3).idleTimer
      = 0 := by decide

/-- R123: low is timed from the grant, so a line that fell before it ends the transfer, and the next one again. -/
theorem test_stall_low_before_grant :
    (after (.stall 3) (lowReady (sheetTransfer true) { state := .transferring, request := true })).reader.transfer
      = some { station := 3, slot := some 0 } ∧
    (stationOf (after (.stall 3) (lowReady { station := 3, slot := some 0 } { state := .transferring })) 3).lastEnd
      = some .stall := by decide

/-- R73: the wrap makes a start at 0 due. -/
theorem test_clockTick_wrap_start :
    (sessionOf (after .clockTick { lateHall .seating .present with timer := { (lateHall .seating .present).timer with
      sessions := [(0, { session .seating with start := 0 })] } }) 0).startDue = true := by decide
/-! ## Witnesses: the invariants hold in a running hall -/

/-- The hall's only line record is that of line 0, which runs no test. -/
theorem noTest_hall (ss : SessState) (cs : CandState) (l : Nat) : (lineOf (hall ss cs) l).test = none := by
  by_cases h : l = 0
  · subst h; rfl
  · simp [hall, lineOf, tableRead, Ne.symm h]

theorem witness_EveryStepKeepsTheBounds : Bounded (hall .writing .writing) := by
  have quiet : ∀ l, 8 ≤ l → (lineOf (hall .writing .writing) l).test = none := fun l _ => noTest_hall _ _ l
  simp only [Bounded]
  and_intros
  all_goals first | exact quiet | decide

theorem witness_EveryStepKeepsTheRosterSound : RosterSound (hall .writing .writing) := rosterSound_hall _ _

theorem witness_EveryStepKeepsTheSessionsSound :
    SessionsSound (withSession { session .paused with causes := { host := true, hall := true } } .writing) := by
  unfold SessionsSound
  decide

theorem witness_EveryStepKeepsSeatsAndCandidatesAgreed : SeatsAgree (hall .writing .writing) :=
  seatsAgree_hall _ _ (by decide)

theorem witness_steps :
    step { hall .writing .writing with pending := [.pauseSession 1 0] }
      = .next (after (.pauseSession 1 0) (hall .writing .writing)) ∧
    (sessionOf (after (.pauseSession 1 0) (hall .writing .writing)) 0).state = .paused := by
  refine ⟨rfl, by decide⟩

/-! ## Witnesses of further clauses: frames, walks, eligibility, replies of desks, refusals -/

/-- A list of one entry or of as many as its count says passes, one whose count is over the limit too, 0 standing for 256; a
count within the limit that the length does not fit does not (R189). -/
theorem witness_ReceiverJudgesFramesAndRequests_lengths :
    frameFailure ⟨1, 5, 0x10, [65]⟩ = none ∧ frameFailure ⟨1, 5, 0x10, [0, 1, 2]⟩ = none ∧
    frameFailure ⟨1, 5, 0x10, [64]⟩ = some .badLength ∧ frameFailure ⟨1, 5, 0x20, 1 :: List.replicate 9 0⟩ = none ∧
    frameFailure ⟨1, 5, 0x81, [0, 0, 1, 26]⟩ = none ∧ frameFailure ⟨1, 5, 0x81, [0, 0, 1]⟩ = some .badLength ∧
    frameFailure ⟨1, 5, 0x53, [1, 0x41, 0, 9]⟩ = none ∧ frameFailure ⟨1, 5, 0x53, [0, 0]⟩ = some .badLength ∧
    frameFailure ⟨2, 5, 0xFF, [1]⟩ = some .wrongKind ∧ frameFailure ⟨1, 5, 0x3E, [1]⟩ = some .unknownCode ∧
    (Instr.defineSeats 0 65 []).wellFormed = true ∧ (requestFrame (.defineSeats 0 65 [])).isSome = true := by decide

/-- A session whose writing start is due, its cutoff a second after it or with it. -/
theorem witness_WritingStartAndCutoff_assigned :
    (sessionOf (withSession { session .reading with reading := 2700, late := 1 } .assigned) 0).cutoffTaken = none ∧
    36000 < 33300 + 2700 + totalPause (session .reading) 36000 + 1 ∧
    33300 + 2700 + totalPause (session .reading) 36000 + 0 ≤ 36000 ∧ (session .reading).start = 33300 ∧
    RosterSound (withSession { session .reading with reading := 2700, late := 1 } .assigned) ∧
    candidateOf (after (.writingStart 0) (withSession { session .reading with reading := 2700, late := 1 } .assigned)) 10
      = some (cand .assigned) ∧
    (candidateOf (after (.writingStart 0) (withSession { session .reading with reading := 2700, late := 0 } .assigned)) 10).map
      (·.state) = some .absent := by
  refine ⟨by decide, by decide, by decide, by decide, rosterSound_withSession _ _, by decide, by decide⟩

/-- Each result of R154's checks: the last slot and the one after it, a session that is neither DEFINED nor CLOSED, an ALLOCATE of
the session. -/
theorem witness_ClearSessionFreesTheSlot_refusals :
    clearFailure (hall .closed .collected) 8 = some .badValue ∧ clearFailure (hall .closed .collected) 7 = some .wrongState ∧
    clearFailure (hall .writing .writing) 0 = some .wrongState ∧ clearFailure (allocating true) 0 = some .busy ∧
    canTake (.clearSession 0 0) (allocating true) = true ∧ canTake (.clearSession 0 8) (hall .closed .collected) = true := by
  decide

/-- A hall with a LISTED candidate 10 and some seats. -/
def seatHall (seats : Table Seat) : State := { hall .seating .listed with seatMap := { seats := seats } }

/-- An ACCESSIBLE seat in the hall's first corner, and another seat, ACCESSIBLE or not, in its last. -/
def corners (accessible : Bool) : State :=
  seatHall [(0, { row := 0, column := 0, line := 0, address := 1, accessible := true, state := .free }),
    (959, { row := 39, column := 63, line := 7, address := 120, accessible := accessible, state := .free })]

/-- A seat table has its form where a check over its listed seats says so and no cursor has moved. -/
theorem seatsPlaced_of (s : State) (rising : (s.seatMap.seats.map (·.1)).Pairwise (· < ·))
    (ranges : ∀ p ∈ definedSeats s, p.1 < 960 ∧ p.2.row < 40 ∧ p.2.column < 64 ∧ p.2.line < 8 ∧ 1 ≤ p.2.address ∧
      p.2.address ≤ 120)
    (apart : ∀ p ∈ definedSeats s, ∀ q ∈ definedSeats s, p.1 ≠ q.1 →
      ¬(p.2.row = q.2.row ∧ p.2.column = q.2.column) ∧ ¬(p.2.line = q.2.line ∧ p.2.address = q.2.address))
    (cursors : s.seatMap.cursors = []) : SeatsPlaced s :=
  ⟨rising, fun n x h => ranges (n, x) h, fun n x m y hn hm => apart (n, x) hn (m, y) hm,
    fun k => by simp [cursorOf, cursors, tableRead]⟩

theorem seatsPlaced_corners (accessible : Bool) : SeatsPlaced (corners accessible) := by
  cases accessible <;> exact seatsPlaced_of _ (by decide) (by decide) (by decide) rfl

/-- R12: with NEEDS_ACCESS only the ACCESSIBLE seat is taken; without, the other one from wherever the walk begins; and where both
are ACCESSIBLE the first from the cursor on, the walk wrapping at the hall's last corner. -/
theorem witness_ChosenSeatIsEligible_walks :
    SeatsPlaced (corners true) ∧ SeatsPlaced (corners false) ∧
    seatFailure (corners false) 0 false none 959 = none ∧ (seatOf (corners false) 959).accessible = false ∧
    (∀ p ∈ definedSeats (corners true), p.2.accessible = true) ∧
    findSeat (corners false) { cand .listed with needsAccess := true } .rowMajor (39, 63) none = some 0 ∧
    findSeat (corners false) (cand .listed) .rowMajor (0, 0) none = some 959 ∧
    findSeat (corners true) (cand .listed) .columnMajor (39, 63) none = some 959 ∧
    findSeat (corners true) (cand .listed) .columnMajor (0, 1) none = some 959 ∧
    findSeat (corners true) (cand .listed) .columnMajor (nextPosition .columnMajor (39, 63)) none = some 0 ∧
    findSeat (seatHall []) (cand .listed) .rowMajor (0, 0) none = none ∧
    (cand .listed).seat = none ∧ autoSeat (hall .writing .writing) (cand .writing) = some 1 := by
  refine ⟨seatsPlaced_corners _, seatsPlaced_corners _, ?_⟩
  decide

/-- A seat next to one that candidate 11 of the session holds. -/
def besideHeld (x : Seat) : State :=
  { seatHall [(0, { row := 0, column := 0, line := 0, address := 1, state := .assigned, candidate := some 11 }),
      (1, { x with row := 0, column := 1, line := 0, address := 2 })] with
    roster := [cand .listed, { cand .assigned with number := 11 }] }

/-- The first failing test of R10 for seats that fail that one and every later one. -/
theorem witness_AssignAndUnassign_details :
    seatFailure (besideHeld { outOfService := true, reserved := true, state := .outOfService }) 0 true none 1
      = some .seatOutOfService ∧
    seatFailure (besideHeld { reserved := true, state := .inUse }) 0 true none 1 = some .seatTaken ∧
    seatFailure { besideHeld { reserved := true, state := .free } with desk := { lines := [(0, { state := .fault })] } } 0 true
      none 1 = some .seatReserved ∧
    seatFailure { besideHeld { state := .free } with desk := { lines := [(0, { state := .test })] } } 0 true none 1
      = some .lineUnavailable ∧
    seatFailure (besideHeld { state := .free }) 0 true none 1 = some .notAccessible ∧
    seatFailure (besideHeld { state := .free }) 0 false none 1 = some .adjacent ∧
    seatFailure (besideHeld { state := .free }) 0 false (some 0) 1 = none ∧
    canTake (.assignSeat 0 10 1) (besideHeld { state := .free }) = true ∧
    candidateOf (besideHeld { state := .free }) 10 = some (cand .listed) ∧
    (sessionOf (besideHeld { state := .free }) 0).state = .seating ∧
    (after (.assignSeat 0 10 1) (besideHeld { state := .free })).link.fault.map (fun f => (f.detail, f.object))
      = some (.adjacent, some 0) := by decide

theorem witness_AssignAndUnassign_neighbour :
    Neighbour (besideHeld { state := .free }) 0 none 1 0 ∧ ∀ k, Neighbour (besideHeld { state := .free }) 0 none 1 k → 0 ≤ k :=
  ⟨⟨_, _, .head _, by decide, by decide, rfl, rfl⟩, fun _ _ => Nat.zero_le _⟩

/-- Replies at the ends of R83's ranges, and one beyond each (R84). -/
theorem witness_DeskReplyIsTaken_ranges :
    (validReply (.poll 1) [1, 7, 8, 1, 5, 245, 224, 255, 1, 81, 127, 69]).map (fun p => (p.1.argument, p.1.stamp, p.2))
      = some (99999999, 86399, .signIn) ∧
    validReply (.poll 1) [1, 7, 8, 1, 5, 245, 225, 0, 1, 81, 127, 67] = none ∧
    validReply (.poll 1) [1, 7, 9, 1, 5, 245, 224, 255, 1, 81, 127, 68] = none ∧
    validReply (.poll 1) [1, 7, 8, 1, 5, 245, 224, 255, 1, 81, 128, 68] = none ∧
    validReply (.poll 1) [1, 7, 8, 1, 5, 245, 224, 255, 1, 81, 127, 70] = none ∧
    validReply (.poll 2) [1, 7, 8, 1, 5, 245, 224, 255, 1, 81, 127, 69] = none ∧
    validReply (.poll 1) [1, 0, 1, 8, 0, 0, 0, 0, 0, 0, 0, 246] = none ∧
    (validReply (.delivery 1 .end_) [1, 0, 0, 7, 255, 255, 255, 255, 0, 0, 0, 252]).map (·.2) = some .ackEnd ∧
    validReply (.delivery 1 .seat) [1, 0, 0, 7, 255, 255, 255, 255, 0, 0, 0, 252] = none := by decide

theorem seatsPlaced_hall : SeatsPlaced (hall .writing .writing) :=
  seatsPlaced_of _ (by decide) (by decide) (by decide) rfl

theorem witness_LineTestRunsAndEnds_inUse :
    SeatsPlaced (hall .writing .writing) ∧ lineInUse (hall .writing .writing) 0 = some 0 ∧
    lineInUse (hall .writing .writing) 7 = none ∧ lineInUse (hall .seating .assigned) 0 = none ∧
    canTake (.lineTest 0 0 1 255) (hall .writing .writing) = true ∧ (lineOf (hall .writing .writing) 0).state = .running :=
  ⟨seatsPlaced_hall, by decide, by decide, by decide, by decide, by decide⟩

theorem witness_PortGrantsInTurn_eligible :
    grantable (reading { state := .idle, request := true } none { state := .free, exportMark := true }) 3 = true ∧
    grantable (reading { state := .idle, request := false } none {}) 3 = false ∧
    grantable (reading { state := .standby, request := true } none {}) 3 = false ∧
    grantable (reading { state := .idle, request := true, kind := .cover } none {}) 3 = true := by decide

theorem witness_KeysAreLoaded_busy :
    canTake (.beginKey 0 0 200 1 1 (some 255) (some 254))
      (marking {} (cand .finished) { state := .marking, form := some 21330 } none none) = true ∧
    formMarking (marking {} (cand .finished) { state := .marking, form := some 21330 } none none) 21330 = true ∧
    formMarking (marking {} (cand .finished) {} none (some (remarking 0))) 21330 = false ∧
    remarkOf (marking {} (cand .finished) {} none (some (remarking 0))) 0 = true ∧
    (sessionOf (marking {} (cand .finished) {} none (some (remarking 0))) 0).state ≠ .free ∧
    (sessionOf (marking {} (cand .finished) {} none (some (remarking 0))) 0).form = 21330 := by decide

theorem witness_EveryStepKeepsSeatsAndCandidatesAgreed_placed :
    RosterSound (hall .writing .writing) ∧ SeatsAgree (hall .writing .writing) ∧ SeatsPlaced (hall .writing .writing) :=
  ⟨rosterSound_hall _ _, seatsAgree_hall _ _ (by decide), seatsPlaced_hall⟩

/-! ## Figures of the manual

Each expected value stands in the section or rule named. -/

/-- Section 9.2: "Over the nine bytes of the characters 1 to 9 in ASCII the check is 29B1h." -/
theorem test_crc_of_the_nine_digits : crc16 [0x31, 0x32, 0x33, 0x34, 0x35, 0x36, 0x37, 0x38, 0x39] = 0x29B1 := by
  decide +kernel

/-- ECON12 of section 10.1. -/
def econ : Session :=
  { state := .writing, start := 32400, reading := 600, writing := 7200, late := 1200, bar := 1800, lock := 600
    warn1 := 1800, warn2 := 300, grain := 60 }

/-- Section 10.3: 42,000 and 40,200 for ECON12, 38,700 and 39,240 for MAT101. -/
theorem test_personal_ends_at_the_starts :
    [computedEnd econ 33000 { cand .writing with allowance := 25 }, computedEnd econ 33000 (cand .writing),
     computedEnd (session .writing) 33300 (cand .writing),
     computedEnd (session .writing) 33300 { cand .writing with allowance := 10 }] = [42000, 40200, 38700, 39240] := by
  decide

/-- Sections 10.4 and 10.5: 42,120 and 40,320 after a pause of 95 s; 42,540 with a rest of 420 s within 600. -/
theorem test_personal_ends_after_the_hold :
    [computedEnd { econ with closedPause := 95 } 36395 { cand .writing with allowance := 25 },
     computedEnd { econ with closedPause := 95 } 36395 (cand .writing),
     computedEnd { econ with closedPause := 95 } 37750 { cand .writing with allowance := 25, restTaken := 420 }]
      = [42120, 40320, 42540] := by decide

/-- Section 10.6: a move of 200 s puts E at 40,500. -/
theorem test_personal_end_after_the_move :
    computedEnd { econ with closedPause := 95 } 38480 { cand .writing with moveCredit := 200 } = 40500 := by decide

/-- Section 10.3: the cutoff of MAT101 lies at 34,200. -/
theorem test_late_cutoff : lateCutoff (session .writing) 33730 = 34200 := by decide

/-- Sections 8.9, 10.8 and 10.10: percents in tenths. -/
theorem test_percents :
    [percentOf 122 160, percentOf 61 80, percentOf 70 80, percentOf 66 80, percentOf 65 80, percentOf 58 80]
      = [763, 763, 875, 825, 813, 725] := by decide

/-- R9: orthogonal neighbours share a row or a column; full ones may also meet at a corner. -/
theorem test_adjacency :
    adjacent .orthogonal { row := 0, column := 0 } { row := 0, column := 1 } = true ∧
    adjacent .orthogonal { row := 0, column := 0 } { row := 1, column := 1 } = false ∧
    adjacent .full { row := 0, column := 0 } { row := 1, column := 1 } = true ∧
    adjacent .full { row := 0, column := 0 } { row := 0, column := 2 } = false := by decide

/-! ## One step each -/

/-- The table gives its rows no bits, so no word spells a command. -/
theorem test_no_word_spells_a_command : decodeTableWord 8 1 = none := by decide

/-- R4 and section 9.4: a grid position another defined seat has is refused with EXISTS (07h), POSITION_USED (11h), and
the seat stays UNDEFINED. -/
theorem test_defineSeats_position_used :
    (after (.defineSeats 1 1 [⟨0, 5, 0, 2, 3, 1, 0, 0, 0⟩]) (hall .writing .writing)).link.replies
      = [⟨1, 0x10, .exists_, [.num 1 1, .num 1 0, .num 1 0x07, .num 1 0x11], false⟩] ∧
    (seatOf (after (.defineSeats 1 1 [⟨0, 5, 0, 2, 3, 1, 0, 0, 0⟩]) (hall .writing .writing)) 5).state = .undefined := by
  decide

/-- Section 10.2, first step: the walk passes seat 0 and the cursor stands at (0, 1) after it. -/
theorem test_allocateStep_moves_the_cursor :
    (seatOf (after .allocateStep (allocating true)) 0).candidate = some 10 ∧
    cursorOf (after .allocateStep (allocating true)) 0 = (0, 1) := by decide

/-- R18: the seat and the candidate name each other, and SEAT is owed at the seat's desk. -/
theorem test_assignSeat :
    (seatOf (after (.assignSeat 1 10 1) (hall .writing .listed)) 1).candidate = some 10 ∧
    (deskOf (after (.assignSeat 1 10 1) (hall .writing .listed)) 0 2).owedSeat = true := by decide

/-- R27: an allowance of 33 is taken as 30, and the entry is clamped. -/
theorem test_addCandidates_clamps :
    (after (.addCandidates 1 1 [⟨77, 0, 33, 0, 0⟩]) (hall .writing .writing)).roster.map (·.allowance) = [0, 30] ∧
    (after (.addCandidates 1 1 [⟨77, 0, 33, 0, 0⟩]) (hall .writing .writing)).link.replies.map (·.result)
      = [.clamped] := by decide

/-- R47: after 86,399 comes 0. -/
theorem test_clockTick_wraps :
    (after .clockTick { State.reset with timer := { State.reset.timer with clock := 86399 } }).timer.clock = 0 := by
  decide

/-- Section 10.3: a PRESENT candidate is WRITING at the writing start, and END is owed at its desk. -/
theorem test_writingStart :
    (candidateOf (after (.writingStart 0) (withSession { session .reading with reading := 2700 } .present)) 10).map
      (·.state) = some .writing ∧
    (deskOf (after (.writingStart 0) (withSession { session .reading with reading := 2700 } .present)) 0 1).owedEnd
      = true := by decide

/-- Section 10.3: an ASSIGNED candidate whose desk is in contact is ABSENT at the cutoff, and its seat FREE. -/
theorem test_cutoffEvent :
    (candidateOf (after (.cutoffEvent 0) (withSession { session .writing with late := 2700 } .assigned)) 10).map
      (·.state) = some .absent ∧
    (seatOf (after (.cutoffEvent 0) (withSession { session .writing with late := 2700 } .assigned)) 0).state = .free := by
  decide

/-- Section 10.4: the hold pauses a WRITING session with cause HALL. -/
theorem test_inputHold :
    (sessionOf (after .inputHold (holding false false true)) 0).state = .paused ∧
    (sessionOf (after .inputHold (holding false false true)) 0).causes = { hall := true } := by decide

/-- Section 10.7: at E the candidate is FINISHED and, with no other left, the session ENDED. -/
theorem test_personalEnd :
    (candidateOf (after (.personalEnd 10) (withSession { session .writing with writing := 2700 } .writing)) 10).map
      (fun c => (c.state, c.personalEnd)) = some (.finished, some 36000) := by decide

/-- R29 and R31: a LEAVE_CANDIDATE's seat awaits collection. -/
theorem test_leaveCandidate :
    (seatOf (after (.leaveCandidate 1 10) (hall .writing .writing)) 0).state = .awaitingCollection := by decide

/-- R43 and R83: byte 0 is the address, byte 1 the status, 8 to 10 the stamp; the CALL of desk 1 raises DESK_CALL. -/
theorem test_deskReply_call :
    (after (.deskReply 0 callReply)
      (withLine { state := .running, awaited := some (.poll 1) })).link.notices.drop 1
      = [.deskCall 0 0 1 (some 10) (some .writing) 35990] := by decide

/-- Section 10.5: the third cycle without a reply makes the line LOST. -/
theorem test_lineCycleEnd :
    (lineOf (after (.lineCycleEnd 0) (withLine { state := .running, position := 8, missedCycles := 2 })) 0).state
      = .lost := by decide

/-- R121: a row count outside 11 to 210 is a bad header, and the station is in FAULT. -/
theorem test_sheetHeader_bad :
    (stationOf (after (.sheetHeader 3 [0, 1, 0, 211, 44])
      (reading { state := .transferring } (some (sheetTransfer false)) {})) 3).state = .fault := by decide

/-- R136, test 3: a cover of a WRITING candidate is refused with EARLY (section 10.7). -/
theorem test_coverTaken_early :
    (after .coverTaken (collecting .writing (cand .writing) [cover 1] none)).link.notices.drop 1
      = [.coverRefused .early (cover 1) (some 0) (some (.writing, none))] := by decide

/-- Section 10.8: a missing booklet stops the sweep with DISCREPANCY. -/
theorem test_sweepStep_missing :
    (after .sweepStep (collecting .collecting { whole with declared := some 2 } [] (some (sweeping 1)))).link.replies.map
      (·.result) = [.discrepancy] := by decide

/-- R162: after generation 255 comes 1. -/
theorem test_commitKey_generation :
    (keyOf (after (.commitKey 0 0) (marking (key .loading) (cand .finished) {} none none)) 0).generation = 1 := by decide

/-- R171: darkness at the mark threshold marks, one below it does not, and one at the faint threshold is faint. -/
theorem test_marked_set_thresholds :
    markedSet 160 [160, 159, 0, 255, 0, 0, 0, 0] = 0x09 ∧ faintRow 160 96 [160, 96, 0, 0, 0, 0, 0, 0] = true ∧
    faintRow 160 96 [160, 95, 0, 0, 0, 0, 0, 0] = false := by decide

/-- R200: a RESTART waits while a short reply is unsent. -/
theorem test_restart_waits :
    (after (.restart 2) (after (.identify 1) State.reset)).link.replies.map (·.tag) = [1] := by decide

/-- R187: C9h followed by C9h 36h begins a frame, and a byte of no frame is passed over. -/
theorem test_receiver_hunts :
    (takeBytes [0x00, 0x36, 0xC9, 0xC9, 0x36] {}).assembly = [0xC9, 0x36] := by decide

/-- R130: the export mark stays when the reply is made, and goes when it is sent. -/
theorem test_exportMark_until_sent :
    (slotOf (after .readSheetDone (after (.readSheet 1 0 0 1) (reading {} none { state := .filled, rowCount := some 11 }))) 0).exportMark
      = true ∧
    (slotOf (after (.transmitStart true) (after .readSheetDone (after (.readSheet 1 0 0 1)
      (reading {} none { state := .filled, rowCount := some 11 })))) 0).exportMark = false := by decide

/-- R41: an allowance lowered to the running rest raises REST_OVER before the end it brings is reached. -/
theorem test_setCandidate_restOver :
    (after (.setCandidate 0 10 none (some 0) none none) restingHall).link.notices.drop 1
      = [.restOver 10 (some 0) 0 1200, .candidateState 10 0 (some 0) .resting .finished .personalEnd 36000,
         .sessionState 0 ['M', 'A', 'T', '1', '0', '1'] .writing .ended {} .end_ 36000] := by decide +kernel

/-- R122: the step that completes a sheet grants the port again. -/
theorem test_sheetRow_grants :
    (after (.sheetRow 3 [0, 0, 0, 0, 0, 0, 0, 0, 0])
      (reading { state := .transferring, request := true } (some (sheetTransfer true))
        { state := .filling, rowCount := some 11, rowsFilled := 10 })).reader.transfer.map (·.slot) = some (some 1) := by
  decide

end Sys2Proof.Tests
end

section
/-! Adjacency of two seats (R9): what the distance of two grid coordinates says about them, and adjacency under each
separation mode in terms of distances. -/

namespace Sys2Proof.Machine

/-! ## The distance of two coordinates -/

theorem distance_eq_zero_iff (a b : Nat) : distance a b = 0 ↔ a = b := by
  unfold distance
  omega

theorem distance_eq_one_iff (a b : Nat) : distance a b = 1 ↔ a = b + 1 ∨ b = a + 1 := by
  unfold distance
  omega

theorem distance_le_one_iff (a b : Nat) : distance a b ≤ 1 ↔ a ≤ b + 1 ∧ b ≤ a + 1 := by
  unfold distance
  omega

/-! ## Adjacency under each separation mode -/

theorem adjacent_noSep (a b : Seat) : adjacent .noSep a b = false := rfl

theorem adjacent_orthogonal_iff (a b : Seat) :
    adjacent .orthogonal a b = true ↔
      (distance a.row b.row = 0 ∧ distance a.column b.column = 1) ∨
      (distance a.row b.row = 1 ∧ distance a.column b.column = 0) :=
  decide_eq_true_iff

theorem adjacent_full_iff (a b : Seat) :
    adjacent .full a b = true ↔
      distance a.row b.row ≤ 1 ∧ distance a.column b.column ≤ 1 ∧
      ¬(distance a.row b.row = 0 ∧ distance a.column b.column = 0) :=
  decide_eq_true_iff

/-- Settles O24, mode by mode: each mode's condition on the two distances, read as one on the coordinates. -/
theorem adjacencyFollowsTheGrid : Obligations.AdjacencyFollowsTheGrid := by
  intro a b
  refine ⟨adjacent_noSep a b, ?orthogonal, ?full⟩
  case orthogonal =>
    rw [adjacent_orthogonal_iff, distance_eq_zero_iff, distance_eq_one_iff, distance_eq_one_iff, distance_eq_zero_iff,
      and_comm (b := a.column = b.column)]
  case full =>
    rw [adjacent_full_iff, distance_le_one_iff, distance_le_one_iff, distance_eq_zero_iff, distance_eq_zero_iff,
      and_assoc, and_assoc]

end Sys2Proof.Machine
end

section
/-! The arithmetic of R65: rounding up to the grain, the stretched writing and the open move credit, and the personal
end computed from them. -/

namespace Sys2Proof.Machine

/-! ## Rounding up to the grain (step 5) -/

theorem roundUp_of_pos {grain : Nat} (hgrain : 1 ≤ grain) (x : Nat) :
    roundUp grain x = (x + grain - 1) / grain * grain :=
  if_neg (by omega)

theorem dvd_roundUp {grain : Nat} (hgrain : 1 ≤ grain) (x : Nat) : grain ∣ roundUp grain x := by
  rw [roundUp_of_pos hgrain]
  exact Nat.dvd_mul_left grain _

theorem le_roundUp {grain : Nat} (hgrain : 1 ≤ grain) (x : Nat) : x ≤ roundUp grain x := by
  have hfloor := Nat.lt_div_mul_add (a := x + grain - 1) hgrain
  rw [roundUp_of_pos hgrain]
  omega

theorem roundUp_lt {grain : Nat} (hgrain : 1 ≤ grain) (x : Nat) : roundUp grain x < x + grain := by
  have hfloor := Nat.div_mul_le_self (x + grain - 1) grain
  rw [roundUp_of_pos hgrain]
  omega

theorem roundUp_mono (grain : Nat) {x y : Nat} (hxy : x ≤ y) : roundUp grain x ≤ roundUp grain y := by
  unfold roundUp
  split
  · exact hxy
  · exact Nat.mul_le_mul_right grain (Nat.div_le_div_right (by omega))

/-! ## The stretched writing (step 1) -/

theorem mul_le_stretched (writing allowance : Nat) :
    writing * (100 + allowance) ≤ 100 * stretched writing allowance := by
  unfold stretched
  omega

theorem stretched_lt (writing allowance : Nat) :
    100 * stretched writing allowance < writing * (100 + allowance) + 100 := by
  unfold stretched
  omega

theorem stretched_zero (writing : Nat) : stretched writing 0 = writing := by
  unfold stretched
  omega

theorem stretched_mono {writing writing' allowance allowance' : Nat} (hw : writing ≤ writing')
    (ha : allowance ≤ allowance') : stretched writing allowance ≤ stretched writing' allowance' :=
  Nat.div_le_div_right (Nat.add_le_add_right (Nat.mul_le_mul hw (Nat.add_le_add_left ha 100)) 99)

theorem le_stretched (writing allowance : Nat) : writing ≤ stretched writing allowance :=
  calc
    writing = stretched writing 0 := (stretched_zero writing).symm
    _ ≤ stretched writing allowance := stretched_mono le_rfl (Nat.zero_le allowance)

/-! ## The open move credit (step 3) -/

theorem openMoveCredit_eq (x : Session) (clock : Nat) (c : Candidate) :
    openMoveCredit x clock c =
      if c.state = .moving then (c.moveStart.map fun m => min 600 (unpaused x m clock)).getD 0 else 0 := by
  unfold openMoveCredit moveCreditOf
  cases c.moveStart <;> rfl

theorem openMoveCredit_of_ne_moving (x : Session) (clock : Nat) {c : Candidate} (hstate : c.state ≠ .moving) :
    openMoveCredit x clock c = 0 :=
  if_neg hstate

/-! ## The personal end (steps 4 to 6) -/

theorem computedEnd_le_lastSecond (x : Session) (clock : Nat) (c : Candidate) :
    computedEnd x clock c ≤ Config.lastSecond :=
  Nat.min_le_right _ _

/-- Settles O20: Wx is the model's stretched writing, and E0 its sum rounded up. -/
theorem personalEndFormula : Obligations.PersonalEndFormula := by
  intro x clock c hgrain
  have hbound (hw : x.writing ≤ 21600) (ha : c.allowance ≤ 100) : stretched x.writing c.allowance ≤ 43200 :=
    stretched_mono hw ha
  refine ⟨stretched x.writing c.allowance, roundedEnd x (totalPause x clock) (openMoveCredit x clock c) c, _,
    mul_le_stretched _ _, stretched_lt _ _, hbound, rfl, ?_⟩
  rw [← openMoveCredit_eq]
  exact ⟨le_roundUp hgrain _, roundUp_lt hgrain _, dvd_roundUp hgrain _, rfl, rfl⟩

end Sys2Proof.Machine
end

section
/-! The base end and the longest end of R66: the base end bounds every personal end from below, and the longest end is
the maximum of the personal ends of the session's running candidates. -/

namespace Sys2Proof.Machine

/-! ## The base end -/

theorem baseEnd_eq_computedEnd (x : Session) (clock : Nat) {c : Candidate} (hallowance : c.allowance = 0)
    (hgrant : c.grant = 0) (hrest : c.restTaken = 0) (hcredit : c.moveCredit = 0) (hstate : c.state ≠ .moving) :
    baseEnd x clock = computedEnd x clock c := by
  simp [baseEnd, computedEnd, roundedEnd, hallowance, hgrant, hrest, hcredit, stretched_zero,
    openMoveCredit_of_ne_moving x clock hstate]

theorem baseEnd_le_computedEnd (x : Session) (clock : Nat) (c : Candidate) :
    baseEnd x clock ≤ computedEnd x clock c := by
  have hstretch := le_stretched x.writing c.allowance
  exact min_le_min_right _ (roundUp_mono x.grain (by omega))

/-! ## The longest end -/

/-- The candidates of a session whose time runs: those the longest end is taken over. -/
def runningOf (s : State) (slot : Nat) : List Candidate := (candidatesOf s slot).filter timeRuns

theorem mem_runningOf {s : State} {slot : Nat} {c : Candidate} :
    c ∈ runningOf s slot ↔ c ∈ s.roster ∧ c.slot = slot ∧ timeRuns c = true := by
  simp [runningOf, candidatesOf, and_comm (a := timeRuns c = true)]

theorem longestEnd_eq_baseEnd {s : State} {slot : Nat} (hnone : runningOf s slot = []) :
    longestEnd s slot = baseEnd (sessionOf s slot) s.timer.clock := by
  unfold runningOf at hnone
  unfold longestEnd
  rw [hnone]

theorem max?_ends_eq_longestEnd {s : State} {slot : Nat} (hsome : runningOf s slot ≠ []) :
    ((runningOf s slot).map (computedEnd (sessionOf s slot) s.timer.clock)).max? = some (longestEnd s slot) := by
  unfold runningOf at hsome ⊢
  unfold longestEnd
  cases hrunning : (candidatesOf s slot).filter timeRuns with
  | nil => exact absurd hrunning hsome
  | cons c cs => simp [List.max?_cons', List.foldl_map, -List.max?_cons]

theorem longestEnd_mem_ends {s : State} {slot : Nat} (hsome : runningOf s slot ≠ []) :
    ∃ c ∈ runningOf s slot, computedEnd (sessionOf s slot) s.timer.clock c = longestEnd s slot :=
  List.mem_map.mp (List.max?_eq_some_iff.mp (max?_ends_eq_longestEnd hsome)).1

theorem computedEnd_le_longestEnd {s : State} {slot : Nat} {c : Candidate} (hc : c ∈ runningOf s slot) :
    computedEnd (sessionOf s slot) s.timer.clock c ≤ longestEnd s slot :=
  (List.max?_eq_some_iff.mp (max?_ends_eq_longestEnd (List.ne_nil_of_mem hc))).2 _ (List.mem_map_of_mem hc)

theorem currentEnd_of_running {s : State} {slot : Nat} {c : Candidate} (hc : c ∈ runningOf s slot) :
    currentEnd s c = some (computedEnd (sessionOf s slot) s.timer.clock c) := by
  obtain ⟨-, rfl, hruns⟩ := mem_runningOf.mp hc
  exact if_pos hruns

/-- Settles O21, clause by clause: the base end as R65 with zeros and as its rounded sum, the longest end without and
with a running candidate, and the order of the three. -/
theorem baseEndAndLongestEnd : Obligations.BaseEndAndLongestEnd := by
  refine ⟨?zeros, ?rounded, ?noneRuns, ?someRuns, ?ordered⟩
  case zeros =>
    intro x clock c hallowance hgrant hrest hcredit hstate
    exact baseEnd_eq_computedEnd x clock hallowance hgrant hrest hcredit hstate
  case rounded =>
    intro x clock hgrain
    exact ⟨_, _, rfl, le_roundUp hgrain _, roundUp_lt hgrain _, dvd_roundUp hgrain _, rfl⟩
  case noneRuns =>
    intro s slot hnone
    refine longestEnd_eq_baseEnd (List.eq_nil_iff_forall_not_mem.mpr fun c hc => ?_)
    obtain ⟨hroster, hslot, hruns⟩ := mem_runningOf.mp hc
    exact absurd hruns (by simp [hnone c hroster hslot])
  case someRuns =>
    intro s slot ⟨d, hd⟩
    obtain ⟨c, hc, hlongest⟩ := longestEnd_mem_ends (List.ne_nil_of_mem (mem_runningOf.mpr hd))
    obtain ⟨hroster, hslot, hruns⟩ := mem_runningOf.mp hc
    exact ⟨c, hroster, hslot, hruns, hlongest ▸ currentEnd_of_running hc⟩
  case ordered =>
    intro s slot c hroster hslot hruns
    have hc : c ∈ runningOf s slot := mem_runningOf.mpr ⟨hroster, hslot, hruns⟩
    exact ⟨_, currentEnd_of_running hc, baseEnd_le_computedEnd _ _ c, computedEnd_le_longestEnd hc,
      computedEnd_le_lastSecond _ _ c⟩

end Sys2Proof.Machine
end

section
/-! Scoring one question (R171, R172): the marked set and the faint flag of an image row, the score and category of a
marked set against a question of each kind, and the response entry that holds them. -/

namespace Sys2Proof.Machine

/-! ## The marked set and the faint flag of a row -/

theorem options_eq_nil_iff (marked : Byte) : options marked = [] ↔ marked = 0 := by
  constructor
  · intro hnone
    refine BitVec.eq_of_getLsbD_eq fun b hb => ?_
    simpa using List.filter_eq_nil_iff.mp hnone b (List.mem_range.mpr hb)
  · rintro rfl
    rfl

theorem ne_zero_of_options_length_pos {marked : Byte} (hpos : 0 < (options marked).length) : marked ≠ 0 :=
  fun hzero => List.length_pos_iff.mp hpos ((options_eq_nil_iff marked).mpr hzero)

theorem getLsbD_foldl_or_twoPow (l : List Nat) (acc : Byte) {b : Nat} (hb : b < 8) :
    (l.foldl (fun acc k => acc ||| BitVec.ofNat 8 (2 ^ k)) acc).getLsbD b = (acc.getLsbD b || decide (b ∈ l)) := by
  induction l generalizing acc with
  | nil => simp
  | cons k l ih =>
    rw [List.foldl_cons, ih, BitVec.getLsbD_or, BitVec.getLsbD_ofNat, Nat.testBit_two_pow, Bool.or_assoc]
    simp [hb, eq_comm (a := k)]

theorem getLsbD_markedSet_iff (tm : Nat) (row : List Byte) {b : Nat} (hb : b < 8) :
    (markedSet tm row).getLsbD b = true ↔ tm ≤ (row.getD b 0).toNat := by
  rw [markedSet, getLsbD_foldl_or_twoPow _ _ hb]
  simp [hb]

theorem faintRow_iff (tm tf : Nat) (row : List Byte) :
    faintRow tm tf row = true ↔ ∃ b, b < 8 ∧ tf ≤ (row.getD b 0).toNat ∧ (row.getD b 0).toNat < tm := by
  simp [faintRow]

/-! ## The table of R172, by the kind of the question -/

theorem scoreQuestion_of_void (p : Policy) {q : Question} (marked : Byte) (hkind : q.kind = .void_) :
    scoreQuestion p q marked = (0, .void_) := by
  simp [scoreQuestion, hkind]

theorem scoreQuestion_of_single (p : Policy) {q : Question} (marked : Byte) (hkind : q.kind = .single) :
    scoreQuestion p q marked =
      if marked = 0 then (0, .blank)
      else if (options marked).length = 1 then
        if marked = q.correct then ((q.weight : Int), .correct) else (-(q.penalty : Int), .wrong)
      else (if p = .wrong then -(q.penalty : Int) else 0, .multi) := by
  cases p <;> simp [scoreQuestion, hkind, options_eq_nil_iff]

theorem scoreQuestion_of_multi (p : Policy) {q : Question} (marked : Byte) (hkind : q.kind = .multi) :
    scoreQuestion p q marked =
      if marked = q.correct then ((q.weight : Int), .correct)
      else if marked = 0 then (0, .blank) else (-(q.penalty : Int), .wrong) := by
  simp [scoreQuestion, hkind, options_eq_nil_iff]

/-! ## The response entry -/

@[simp] theorem scoreEntry_marked (k : Key) (n : Nat) (marked : Byte) (faint : Bool) :
    (scoreEntry k n marked faint).marked = marked := by
  unfold scoreEntry
  split <;> rfl

@[simp] theorem scoreEntry_faint (k : Key) (n : Nat) (marked : Byte) (faint : Bool) :
    (scoreEntry k n marked faint).faint = faint := by
  unfold scoreEntry
  split <;> rfl

theorem scoreEntry_of_undefined {k : Key} {n : Nat} (hnone : questionOf k n = none) (marked : Byte) (faint : Bool) :
    scoreEntry k n marked faint = { marked := marked, faint := faint, category := .void_, score := 0 } := by
  simp [scoreEntry, hnone]

theorem scoreEntry_of_defined {k : Key} {n : Nat} {q : Question} (hsome : questionOf k n = some q) (marked : Byte)
    (faint : Bool) :
    scoreEntry k n marked faint =
      { marked := marked, faint := faint, category := (scoreQuestion k.policy q marked).2
        score := (scoreQuestion k.policy q marked).1 } := by
  simp [scoreEntry, hsome]

/-- Settles O50, row by row of the table of R172. -/
theorem questionScoresByTheTable : Obligations.QuestionScoresByTheTable := by
  refine ⟨fun k n q marked faint hsome => scoreEntry_of_defined hsome marked faint, fun p q marked =>
    ⟨scoreQuestion_of_void p marked, ?singleBlank, ?singleCorrect, ?singleWrong, ?severalWrong, ?severalBlank,
      ?multiCorrect, ?multiBlank, ?multiWrong⟩⟩
  case singleBlank =>
    intro hkind hzero
    rw [scoreQuestion_of_single p marked hkind, if_pos hzero]
  case singleCorrect =>
    intro hkind hone hcorrect
    rw [scoreQuestion_of_single p marked hkind, if_neg (ne_zero_of_options_length_pos (by omega)), if_pos hone,
      if_pos hcorrect]
  case singleWrong =>
    intro hkind hone hwrong
    rw [scoreQuestion_of_single p marked hkind, if_neg (ne_zero_of_options_length_pos (by omega)), if_pos hone,
      if_neg hwrong]
  case severalWrong =>
    intro hkind htwo hpolicy
    rw [scoreQuestion_of_single p marked hkind, if_neg (ne_zero_of_options_length_pos (by omega)),
      if_neg (by omega), if_pos hpolicy]
  case severalBlank =>
    rintro hkind htwo rfl
    rw [scoreQuestion_of_single .blank marked hkind, if_neg (ne_zero_of_options_length_pos (by omega)),
      if_neg (by omega), if_neg (by decide)]
  case multiCorrect =>
    intro hkind hcorrect
    rw [scoreQuestion_of_multi p marked hkind, if_pos hcorrect]
  case multiBlank =>
    rintro hkind rfl hcorrect
    rw [scoreQuestion_of_multi p 0 hkind, if_neg hcorrect.symm, if_pos rfl]
  case multiWrong =>
    intro hkind hmarked hwrong
    rw [scoreQuestion_of_multi p marked hkind, if_neg hwrong, if_neg hmarked]

end Sys2Proof.Machine
end

section
/-! The percent in tenths (R174). -/

namespace Sys2Proof.Machine

theorem percentOf_zero (t : Int) : percentOf t 0 = 0 := rfl

theorem percentOf_of_pos {m : Nat} (hm : 0 < m) (t : Int) : percentOf t m = (2000 * t.toNat + m) / (2 * m) :=
  if_neg (by omega)

theorem percentOf_of_nonpos {t : Int} (ht : t ≤ 0) (m : Nat) : percentOf t m = 0 := by
  rcases m.eq_zero_or_pos with rfl | hm
  · exact percentOf_zero t
  · rw [percentOf_of_pos hm]
    exact Nat.div_eq_of_lt (by omega)

theorem mul_percentOf_le {m : Nat} (hm : 0 < m) (t : Int) : 2 * m * percentOf t m ≤ 2000 * t.toNat + m := by
  rw [percentOf_of_pos hm]
  exact Nat.mul_div_le _ _

theorem lt_mul_percentOf_succ {m : Nat} (hm : 0 < m) (t : Int) :
    2000 * t.toNat + m < 2 * m * (percentOf t m + 1) := by
  rw [percentOf_of_pos hm]
  exact Nat.lt_mul_div_succ _ (by omega)

theorem percentOf_le_thousand {t : Int} {m : Nat} (htotal : t ≤ m) : percentOf t m ≤ 1000 := by
  rcases m.eq_zero_or_pos with rfl | hm
  · simp [percentOf_zero]
  · rw [percentOf_of_pos hm]
    exact Nat.le_of_lt_succ (Nat.div_lt_of_lt_mul (by omega))

/-- Settles O51: a half up, as the quotient is the floor of the exact percent plus one half. -/
theorem percentIsRoundedHalfUp : Obligations.PercentIsRoundedHalfUp := by
  refine fun t m => ⟨?zero, fun ht => percentOf_of_nonpos ht m, ?rounded, percentOf_le_thousand,
    fun _ _ _ _ => ⟨rfl, rfl⟩⟩
  case zero =>
    rintro rfl
    exact percentOf_zero t
  case rounded =>
    intro hm ht
    lift t to ℕ using ht.le
    exact ⟨by exact_mod_cast mul_percentOf_le hm t, by exact_mod_cast lt_mul_percentOf_succ hm t⟩

end Sys2Proof.Machine
end

section
/-! The totals of a sheet (R173): the total and the maximum as sums over the key's questions, their bounds from the
bounds of each question's score, and the category counts as a partition of the entries. -/

namespace Sys2Proof.Machine

/-! ## What one question adds to the maximum, and the bounds of its score -/

/-- What a question adds to the maximum m: nothing when VOID, else its weight (R173). -/
def worth (q : Question) : Nat := if q.kind = .void_ then 0 else q.weight

theorem worth_le_weight (q : Question) : worth q ≤ q.weight := by
  unfold worth
  split <;> omega

theorem scoreQuestion_bounds (p : Policy) (q : Question) (marked : Byte) :
    -(q.penalty : Int) ≤ (scoreQuestion p q marked).1 ∧ (scoreQuestion p q marked).1 ≤ worth q := by
  cases hkind : q.kind with
  | void_ =>
    rw [scoreQuestion_of_void p marked hkind]
    simp
  | single =>
    have hworth : worth q = q.weight := by simp [worth, hkind]
    rw [scoreQuestion_of_single p marked hkind, hworth]
    split_ifs <;> dsimp only <;> omega
  | multi =>
    have hworth : worth q = q.weight := by simp [worth, hkind]
    rw [scoreQuestion_of_multi p marked hkind, hworth]
    split_ifs <;> dsimp only <;> omega

/-- What a question number adds to the maximum: an undefined question nothing. -/
def worthAt (k : Key) (n : Nat) : Nat := (questionOf k n).elim 0 worth

theorem scoreEntry_score_le (k : Key) (n : Nat) (marked : Byte) (faint : Bool) :
    (scoreEntry k n marked faint).score ≤ worthAt k n := by
  cases hq : questionOf k n with
  | none => simp [scoreEntry_of_undefined hq]
  | some q => simpa [scoreEntry_of_defined hq, worthAt, hq] using (scoreQuestion_bounds k.policy q marked).2

theorem neg_le_scoreEntry_score {k : Key} {n bound : Nat}
    (hbound : ∀ x, questionOf k n = some x → x.penalty ≤ bound) (marked : Byte) (faint : Bool) :
    -(bound : Int) ≤ (scoreEntry k n marked faint).score := by
  cases hq : questionOf k n with
  | none => simp [scoreEntry_of_undefined hq]
  | some q =>
    rw [scoreEntry_of_defined hq]
    have hpenalty := hbound q hq
    have hscore := (scoreQuestion_bounds k.policy q marked).1
    dsimp only
    omega

theorem worthAt_le {k : Key} {n bound : Nat} (hbound : ∀ x, questionOf k n = some x → x.weight ≤ bound) :
    worthAt k n ≤ bound := by
  cases hq : questionOf k n with
  | none => simp [worthAt, hq]
  | some q => simpa [worthAt, hq] using (worth_le_weight q).trans (hbound q hq)

/-! ## The maximum -/

theorem length_questionNumbers {k : Key} {n : Nat} (hn : k.questions = some n) : (questionNumbers k).length = n := by
  simp [questionNumbers, hn]

theorem keyMaximum_eq_sum_worthAt (k : Key) : keyMaximum k = ((questionNumbers k).map (worthAt k)).sum := by
  rw [keyMaximum, List.sum_eq_foldl, List.foldl_map]
  refine List.foldl_ext _ _ _ fun acc q _ => ?_
  cases hq : questionOf k q with
  | none => simp [worthAt, hq]
  | some x => by_cases hvoid : x.kind = .void_ <;> simp [worthAt, worth, hq, hvoid]

theorem sum_map_filterMap {α β : Type} (f : α → Option β) (g : β → Nat) (l : List α) :
    ((l.filterMap f).map g).sum = (l.map fun a => (f a).elim 0 g).sum := by
  induction l with
  | nil => rfl
  | cons a l ih => cases ha : f a <;> simp [ha, ih]

theorem keyMaximum_eq_sum_worth {k : Key} {n : Nat} (hn : k.questions = some n) :
    keyMaximum k = (((List.range n).filterMap fun i => questionOf k (i + 1)).map worth).sum := by
  rw [keyMaximum_eq_sum_worthAt, sum_map_filterMap]
  simp [questionNumbers, hn, Function.comp_def, worthAt]

theorem keyMaximum_le {k : Key} {n bound : Nat} (hn : k.questions = some n)
    (hbound : ∀ q x, questionOf k q = some x → x.weight ≤ bound) : keyMaximum k ≤ bound * n := by
  have hsum : ((questionNumbers k).map (worthAt k)).sum ≤ ((questionNumbers k).map (worthAt k)).length • bound :=
    List.sum_le_card_nsmul _ _ (List.forall_mem_map.mpr fun q _ => worthAt_le (hbound q))
  rwa [← keyMaximum_eq_sum_worthAt, List.length_map, length_questionNumbers hn, smul_eq_mul, mul_comm] at hsum

/-! ## The total -/

theorem totalOf_eq (k : Key) (es : List Response) :
    totalOf k es = if k.floor = true ∧ (es.map (·.score)).sum < 0 then 0 else (es.map (·.score)).sum := by
  rw [List.sum_eq_foldl, List.foldl_map]
  rfl

theorem sum_scores_le_totalOf (k : Key) (es : List Response) : (es.map (·.score)).sum ≤ totalOf k es := by
  rw [totalOf_eq]
  split_ifs <;> omega

theorem totalOf_nonneg_of_floor {k : Key} (hfloor : k.floor = true) (es : List Response) : 0 ≤ totalOf k es := by
  rw [totalOf_eq]
  split_ifs with hraised
  · exact le_rfl
  · exact not_lt.mp fun hneg => hraised ⟨hfloor, hneg⟩

theorem totalOf_le_of_sum_scores_le {k : Key} {es : List Response} {bound : Nat}
    (hsum : (es.map (·.score)).sum ≤ bound) : totalOf k es ≤ bound := by
  rw [totalOf_eq]
  split_ifs <;> omega

/-! ## The entries of a sheet -/

/-- The entry a sheet's image gives question `q`, from image row 9 + `q` (R171, R177). -/
def sheetEntry (k : Key) (image : List (List Byte)) (q : Nat) : Response :=
  scoreEntry k q (markedSet k.markThreshold (image.getD (9 + q) []))
    (faintRow k.markThreshold k.faintThreshold (image.getD (9 + q) []))

theorem sheetResponses_eq_map (k : Key) (image : List (List Byte)) :
    sheetResponses k image = (questionNumbers k).map (sheetEntry k image) := rfl

theorem length_sheetResponses {k : Key} {n : Nat} (hn : k.questions = some n) (image : List (List Byte)) :
    (sheetResponses k image).length = n := by
  rw [sheetResponses_eq_map, List.length_map, length_questionNumbers hn]

theorem getElem?_sheetResponses {k : Key} {n i : Nat} (hn : k.questions = some n) (hi : i < n)
    (image : List (List Byte)) : (sheetResponses k image)[i]? = some (sheetEntry k image (i + 1)) := by
  simp [sheetResponses_eq_map, questionNumbers, hn, hi]

theorem totalOf_sheetResponses_le (k : Key) (image : List (List Byte)) :
    totalOf k (sheetResponses k image) ≤ keyMaximum k := by
  refine totalOf_le_of_sum_scores_le ?_
  rw [sheetResponses_eq_map, keyMaximum_eq_sum_worthAt, List.map_map, Nat.cast_list_sum, List.map_map]
  exact List.sum_le_sum fun q _ => scoreEntry_score_le k q _ _

theorem neg_le_totalOf_sheetResponses {k : Key} {n bound : Nat} (hn : k.questions = some n)
    (hbound : ∀ q x, questionOf k q = some x → x.penalty ≤ bound) (image : List (List Byte)) :
    -((bound : Int) * n) ≤ totalOf k (sheetResponses k image) := by
  refine le_trans ?_ (sum_scores_le_totalOf k _)
  have hsum : ((sheetResponses k image).map (·.score)).length • -(bound : Int) ≤
      ((sheetResponses k image).map (·.score)).sum := by
    refine List.card_nsmul_le_sum _ _ ?_
    rw [sheetResponses_eq_map, List.map_map]
    exact List.forall_mem_map.mpr fun q _ => neg_le_scoreEntry_score (hbound q) _ _
  rwa [List.length_map, length_sheetResponses hn, nsmul_eq_mul, mul_neg, mul_comm] at hsum

/-! ## The category counts -/

theorem countCategory_cons (e : Response) (es : List Response) (c : Category) :
    countCategory (e :: es) c = countCategory es c + if e.category = c then 1 else 0 := by
  by_cases hc : e.category = c <;> simp [countCategory, hc]

theorem sum_countCategory (es : List Response) :
    countCategory es .correct + countCategory es .wrong + countCategory es .blank + countCategory es .multi +
      countCategory es .void_ = es.length := by
  induction es with
  | nil => rfl
  | cons e es ih =>
    simp only [countCategory_cons, List.length_cons]
    cases e.category <;> simp <;> omega

/-- Settles O52: the bounds of a sheet's totals, its entries, the total and the maximum as sums, and the fields of a
result. -/
theorem totalsStayInBounds : Obligations.TotalsStayInBounds := by
  intro k image n hn hbound
  refine ⟨?bounds, ?entries, totalOf_eq k, keyMaximum_eq_sum_worth hn, ?fields⟩
  case bounds =>
    refine ⟨length_sheetResponses hn image, totalOf_sheetResponses_le k image,
      fun hfloor => totalOf_nonneg_of_floor hfloor _, ?_, ?_, ?_⟩
    · exact neg_le_totalOf_sheetResponses hn (fun q x hq => (hbound q x hq).2) image
    · exact keyMaximum_le hn fun q x hq => (hbound q x hq).1
    · rw [sum_countCategory, length_sheetResponses hn]
  case entries =>
    intro i hi
    have hrow : 9 + (i + 1) = 10 + i := by omega
    refine ⟨_, getElem?_sheetResponses hn hi image, ?_, ?_, ?_⟩
    · intro b hb
      rw [sheetEntry, scoreEntry_marked, hrow, getLsbD_markedSet_iff _ _ hb]
    · rw [sheetEntry, scoreEntry_faint, hrow, faintRow_iff]
    · intro x hx
      rw [sheetEntry, scoreEntry_of_defined hx]
  case fields =>
    rintro es clock b m rfl
    exact ⟨rfl, rfl, rfl, rfl, rfl, rfl, rfl, rfl, rfl⟩

end Sys2Proof.Machine
end
